-- ==== Sys2Proof/Word.lean ====
section
/-! DEFINITION. Word.lean: the widths of EMSG-RX as bit vectors (00_scope.md R13, R14; 30_encoding.md R73). -/

namespace Sys2Proof

/-- A byte, an unsigned 8-bit value (R14). -/
abbrev Byte := BitVec 8

/-- The data of a CSR access, a counter, a checksum: 32 bits (R13, R31, R10). -/
abbrev Word32 := BitVec 32

/-- A CSR byte address, 12 bits (R13, R37). -/
abbrev CsrAddr := BitVec 12

/-- A trace word, 48 bits (R73). -/
abbrev TraceWord := BitVec 48

end Sys2Proof
end

