-- ==== Sys2Proof/Config.lean ====
section
/-! DEFINITION. Config.lean: what an implementation fixes (00_scope.md section 3) and the values the spec leaves open.
The parameters that are plain data stand in `Build`, a constant field of the state, so that a statement about every
state is a statement about every legal value of them (log 1). What the spec leaves uninterpreted is an opaque constant. -/

namespace Sys2Proof

/-- CK_ORDER, the order of the four checksum bytes on the wire (R11). -/
inductive CkOrder where
  | le
  | be
deriving DecidableEq, Repr

/-- QUEUE_DEPTH (R9): a number of messages, or UNBOUNDED, which only a reference model may take. -/
inductive QueueDepth where
  | bounded (n : Nat)
  | unbounded
deriving DecidableEq, Repr

/-- Which CHECKSUM the block is built with (R10): a parameter of which nothing is known but the law of R10 (log 2), or the
suggested instantiation CRC-32/ISO-HDLC, which R10 allows only as a named premise: a claim that needs it
has `s.build.checksum = .crc32IsoHdlc` as a hypothesis (log 3). The number tells one unknown CHECKSUM from another: two blocks, or
a sender and a receiver, with different numbers may have different CHECKSUMs, and with the same number they have the same one
(DESIGN CHOICE, log 21). -/
inductive ChecksumAlg where
  | uninterpreted (n : Nat)
  | crc32IsoHdlc
deriving DecidableEq, Repr

/-- The build parameters of one block (R8 to R11). PREAMBLE_SIZE and CHECKSUM_SIZE are 4 (R6, R7) and have no field. -/
structure Build where
  maxPayload : Nat
  queueDepth : QueueDepth
  ckOrder : CkOrder
  checksum : ChecksumAlg
deriving DecidableEq, Repr

/-- The defaults of R8, R9 and R11, with CHECKSUM left open (log 1); its number has no meaning of its own (log 21). -/
def Build.default : Build :=
  { maxPayload := 32, queueDepth := .bounded 8, ckOrder := .le, checksum := .uninterpreted 0 }

/-- QD is in 1..255, or UNBOUNDED (R9). -/
def QueueDepth.legal : QueueDepth → Bool
  | .bounded n => decide (1 ≤ n ∧ n ≤ 255)
  | .unbounded => true

/-- The parameters are within their ranges (R8, R9). Any other value is refused at construction (R128, X10). -/
abbrev Build.Legal (b : Build) : Prop :=
  1 ≤ b.maxPayload ∧ b.maxPayload ≤ 255 ∧ b.queueDepth.legal = true

namespace Config

/-- CHECKSUM of the empty list, for the uninterpreted CHECKSUM of each number (R10, X1; logs 2 and 21). -/
opaque checksumInit : Nat → Word32

/-- CHECKSUM extended over one byte, for the uninterpreted CHECKSUM of each number: `concat(c, [b])` of R10 (X1;
logs 2 and 21). -/
opaque checksumUpdate : Nat → Word32 → Byte → Word32

/-- The byte read from an array element that does not exist: P[i] for i above 3, or a payload byte that a queued message
lacks. No state within the invariants of R35 reads one (log 8). -/
opaque missingByte : Nat → Byte

/-- CLK_HZ: the clock frequency. No rule of the block reads it (R139, X12; log 14). The spec lets it be any positive value; that
it is a whole number of hertz is the model's choice (DESIGN CHOICE, log 20). -/
opaque clkHz : ℕ+

/-- BYTE_GAP_CYCLES: the transport's largest gap between two bytes of one frame. No rule of the block reads it (R160, X12;
log 14). -/
opaque byteGapCycles : Nat

end Config

end Sys2Proof
end

