-- ==== Sys2Proof/Machine/Checksum.lean ====
section
/-! DEFINITION. Machine/Checksum.lean: CHECKSUM and its extension `concat` (00_scope.md R10). A CHECKSUM that meets the law
of R10 is a left fold of `concat(c, [b])` from CHECKSUM([]), and every such fold meets it, so the model takes the fold of an
uninterpreted update (log 2). -/

namespace Sys2Proof.Machine

/-- Eight steps of the reflected polynomial 0xEDB88320, one for each bit (R10). -/
def crc32Bits : Nat → Word32 → Word32
  | 0, c => c
  | n + 1, c => crc32Bits n (if c.getLsbD 0 then (c >>> 1) ^^^ 0xEDB88320#32 else c >>> 1)

/-- CRC-32/ISO-HDLC extended over one byte; the initial value and the final XOR are both 0xFFFFFFFF, which is complement
(R10; PRESUMED by the spec, log 3). -/
def crc32Update (c : Word32) (b : Byte) : Word32 := ~~~(crc32Bits 8 (~~~c ^^^ b.setWidth 32))

/-- CHECKSUM([]). -/
def checksumInit : ChecksumAlg → Word32
  | .uninterpreted n => Config.checksumInit n
  | .crc32IsoHdlc => 0

/-- `concat(c, [b])`. -/
def checksumUpdate : ChecksumAlg → Word32 → Byte → Word32
  | .uninterpreted n => Config.checksumUpdate n
  | .crc32IsoHdlc => crc32Update

/-- A checksum extended byte by byte: the form that every CHECKSUM of R10 has (log 2). -/
def foldChecksum (update : Word32 → Byte → Word32) (c : Word32) (bytes : List Byte) : Word32 := bytes.foldl update c

/-- `concat(checksum32, bytes)` of R10. -/
def checksumConcat (alg : ChecksumAlg) (c : Word32) (bytes : List Byte) : Word32 := foldChecksum (checksumUpdate alg) c bytes

/-- `CHECKSUM(bytes)` of R10. -/
def checksumOf (alg : ChecksumAlg) (bytes : List Byte) : Word32 := checksumConcat alg (checksumInit alg) bytes

end Sys2Proof.Machine
end

