-- ==== Sys2Proof/Syntax.lean ====
section
/-! DEFINITION. Syntax.lean: the events of EMSG-RX, one constructor per row of opcode_table.json (30_encoding.md R74, R76),
the registers a CSR address selects (42_csr.md R109), and the names of the illegal trace words (R77). -/

namespace Sys2Proof

/-- One event. ADDR[1:0] of a CSR access is ignored (R53), so only the fallback rows, which record the address in the
condition they raise, carry it. -/
inductive Instr where
  /-- R94 -/
  | tick
  /-- R83 -/
  | rxByte (b : Byte)
  /-- R93 -/
  | rxError
  /-- R110 -/
  | rdPreamble
  /-- R116 -/
  | rdCtrl
  /-- R115 -/
  | rdStatus
  /-- R105 -/
  | rdHeadInfo
  /-- R117 -/
  | rdCntOk
  /-- R118 -/
  | rdCntCrcErr
  /-- R119 -/
  | rdCntQDrop
  /-- R120 -/
  | rdCntLenClamp
  /-- R121 -/
  | rdCntTimeout
  /-- R122 -/
  | rdTimeout
  /-- R124 -/
  | rdParams
  /-- R106; k is ADDR[7:2] -/
  | rdHeadData (k : BitVec 6)
  /-- R125; a is the whole address -/
  | rdReserved (a : CsrAddr)
  /-- R111 -/
  | wrPreamble (v : Word32)
  /-- R112 -/
  | wrCtrl (v : Word32)
  /-- R123 -/
  | wrTimeout (v : Word32)
  /-- R126; a is the whole address, v is ignored -/
  | wrIgnored (a : CsrAddr) (v : Word32)
  /-- R145 -/
  | reset
deriving DecidableEq, Repr

/-- The register a CSR address selects (R37, R109). -/
inductive CsrReg where
  | preamble
  | ctrl
  | status
  | headInfo
  | cntOk
  | cntCrcErr
  | cntQDrop
  | cntLenClamp
  | cntTimeout
  | timeout
  | params
  | headData (k : BitVec 6)
  | reserved
deriving DecidableEq, Repr

/-- Why a trace word is illegal: the cases of R77, in its order. -/
inductive IllegalWord where
  /-- KIND is 0x6 to 0xF. -/
  | kind
  /-- A TICK word with a bit set in ADDR or DATA. -/
  | tickFields
  /-- An RX_ERROR word with a bit set in ADDR or DATA. -/
  | rxErrorFields
  /-- A RESET word with a bit set in ADDR or DATA. -/
  | resetFields
  /-- An RX_BYTE word with a bit set in ADDR or DATA[31:8]. -/
  | rxByteFields
  /-- A CSR_READ word with DATA other than 0. -/
  | csrReadData
deriving DecidableEq, Repr

end Sys2Proof
end

