-- ==== Sys2Proof/Machine/State.lean ====
section
/-! DEFINITION. Machine/State.lean: the state of one EMSG-RX instance as plain data (10_state.md R20 to R36), the conditions
an event records (60_exceptions.md R127), the reasons a step can stop, and the state after reset (70_reset_and_hazards.md
R145, R147). -/

namespace Sys2Proof.Machine

/-- PSTATE, the receive state. "A model has only the five values" (R23; log 7). -/
inductive PState where
  | pre
  | addr
  | size
  | payload
  | cksum
deriving DecidableEq, Repr

/-- P[0..3], the configured preamble, p0 the first byte on the wire (R30, R38). -/
structure Preamble where
  p0 : Byte
  p1 : Byte
  p2 : Byte
  p3 : Byte
deriving DecidableEq, Repr

/-- A message (R28): `payload` is a list of `size` bytes, which is an invariant of the state (R35). -/
structure Message where
  src : Byte
  size : Byte
  payload : List Byte
deriving DecidableEq, Repr

/-- The conditions with the information each records (R127). A condition is a fact about one event: it is no trap, no
register latches it, and it stops nothing (R127, R128). -/
inductive Condition where
  /-- Code 1: the byte, and the offset PCOUNT before the reset of it. -/
  | syncMiss (b : Byte) (offset : Byte)
  /-- Code 2: the length byte. -/
  | lenClamped (b : Byte)
  /-- Code 3: RX_CK and FCS(). -/
  | ckMismatch (rxCk fcs : Word32)
  /-- Code 4. -/
  | queueFullDrop
  /-- Code 5. -/
  | rxIoError
  /-- Code 6. -/
  | popEmpty
  /-- Code 7: PSTATE and PCOUNT before the resync. -/
  | timeoutResync (pstate : PState) (pcount : Byte)
  /-- Code 8: the address. -/
  | csrReserved (a : CsrAddr)
deriving DecidableEq, Repr

/-- What one event gives besides the state: the value a CSR read returned and the conditions raised, in the order they were
raised (R15, R17). -/
structure EventOutcome where
  readData : Option Word32
  conditions : List Condition
deriving DecidableEq, Repr

/-- The hardware reports no fault: "No condition is a trap or a fault" and "The block never halts" (R128). So the type has no
constructor, and no step answers with a fault (log 12). Safe: nothing is hidden behind it. -/
inductive Fault where
deriving DecidableEq, Repr

/-- Why the model gives no next state. All of these lie outside the hardware (R128). -/
inductive Refusal where
  /-- Raised by exec for an instruction without a meaning; no arm of this model raises it. Safe. -/
  | notModelled (mnemonic : String)
  /-- Raised by the fetch: the word at the head of the trace is no event (R77). Safe: the hardware has no wires that could
  carry it. -/
  | illegalTraceWord (why : IllegalWord)
  /-- Raised by the fetch: the trace has ended, and with it the run (R17; log 5). Safe: nothing is said about what the
  transport does next. -/
  | traceEnded
  /-- Raised at construction, never by a step: a build parameter is out of its range (R8, R9, X10; log 16). Safe. -/
  | illegalBuild
deriving DecidableEq, Repr

/-- The state of one instance. "Nothing else is state" (R20) but the constants of the build and the two fields of the model's
own, `input` (log 4) and `outcome` (log 6). -/
structure State where
  /-- PSTATE (R23). -/
  pstate : PState
  /-- PCOUNT (R24). -/
  pcount : Byte
  /-- RX_DST (R26). -/
  rxDst : Byte
  /-- RX_SRC (R26). -/
  rxSrc : Byte
  /-- RX_LEN, after clamping (R26). -/
  rxLen : Byte
  /-- RX_BUF[0..M) (R27; log 9). -/
  rxBuf : List Byte
  /-- RX_CK (R27). -/
  rxCk : Word32
  /-- P[0..3] (R30). -/
  pre : Preamble
  /-- Q, oldest message first (R29). -/
  q : List Message
  /-- CNT_OK (R31). -/
  cntOk : Word32
  /-- CNT_CRCERR (R31). -/
  cntCrcErr : Word32
  /-- CNT_QDROP (R31). -/
  cntQDrop : Word32
  /-- CNT_LENCLAMP (R31). -/
  cntLenClamp : Word32
  /-- CNT_TIMEOUT (R31). -/
  cntTimeout : Word32
  /-- TIMEOUT (R32). -/
  timeout : Word32
  /-- IDLE_CNT (R33). -/
  idleCnt : Word32
  /-- The build parameters, which no event changes (R8 to R11, R43; log 1). -/
  build : Build
  /-- The model's own: the trace words not yet applied, oldest first (R73; log 4). -/
  input : List TraceWord
  /-- The model's own: the outcome of the event applied last (R15, R17; log 6). -/
  outcome : EventOutcome
deriving DecidableEq, Repr

/-- The reset state of a block built with `b` (R145, R147). -/
def State.initial (b : Build) : State :=
  { pstate := .pre, pcount := 0
    rxDst := 0, rxSrc := 0, rxLen := 0
    rxBuf := List.replicate b.maxPayload 0, rxCk := 0
    pre := { p0 := 0xAA, p1 := 0xBB, p2 := 0xCC, p3 := 0xDD }
    q := []
    cntOk := 0, cntCrcErr := 0, cntQDrop := 0, cntLenClamp := 0, cntTimeout := 0
    timeout := 0, idleCnt := 0
    build := b
    input := []
    outcome := { readData := none, conditions := [] } }

/-- The machine right after reset, for the default build (R145, R147; log 1). -/
def State.reset : State := State.initial Build.default

end Sys2Proof.Machine
end

