-- ==== Sys2Proof/Machine/Operands.lean ====
section
/-! DEFINITION. Machine/Operands.lean: every operand form of the spec: indexed preamble bytes, the clamped length, the
checksum byte lanes in CK_ORDER, FCS(), and the packed CSR words (10_state.md R38 to R45, 20_memory.md R50, R51,
30_encoding.md R75, 40_receive.md R84). -/

namespace Sys2Proof.Machine

/-! ## Parser operands -/

/-- The numbers of the parser states (R23). -/
def PState.code : PState → BitVec 3
  | .pre => 0
  | .addr => 1
  | .size => 2
  | .payload => 3
  | .cksum => 4

/-- P[i] (R30, R85). There is no P[i] for i above 3: outside R35 the byte is a free value (log 8). -/
def Preamble.get (p : Preamble) (i : Byte) : Byte :=
  match i.toNat with
  | 0 => p.p0
  | 1 => p.p1
  | 2 => p.p2
  | 3 => p.p3
  | n => Config.missingByte n

/-- The preamble as bytes in wire order (R49). -/
def Preamble.bytes (p : Preamble) : List Byte := [p.p0, p.p1, p.p2, p.p3]

/-- RX_LEN = min(b, M) (R75, R88). -/
def clampLen (m : Nat) (b : Byte) : Byte := if m < b.toNat then BitVec.ofNat 8 m else b

/-- The byte lane [8*lane+7 : 8*lane] of a word replaced by `b`. -/
def putLane (w : Word32) (lane : Nat) (b : Byte) : Word32 :=
  (w &&& ~~~(0xFF#32 <<< (8 * lane))) ||| (b.setWidth 32 <<< (8 * lane))

/-- The byte in lane [8*lane+7 : 8*lane] of a word. -/
def getLane (w : Word32) (lane : Nat) : Byte := w.extractLsb' (8 * lane) 8

/-- The lane of the checksum byte number `i` on the wire (R11, R91). -/
def ckLane (order : CkOrder) (i : Nat) : Nat :=
  match order with
  | .le => i
  | .be => 3 - i

/-- RX_CK with checksum byte number `i` written; there is no byte number 4 or more (R91; log 8). -/
def putCkByte (order : CkOrder) (i : Byte) (b : Byte) (w : Word32) : Word32 :=
  if i.toNat < 4 then putLane w (ckLane order i.toNat) b else w

/-- `le32(v)` (R15). -/
def le32 (v : Word32) : List Byte := [getLane v 0, getLane v 1, getLane v 2, getLane v 3]

/-- `be32(v)` (R15). -/
def be32 (v : Word32) : List Byte := (le32 v).reverse

/-- `ckbytes(v)` (R15). -/
def ckBytes (order : CkOrder) (v : Word32) : List Byte :=
  match order with
  | .le => le32 v
  | .be => be32 v

/-- RX_BUF[0..RX_LEN) (R27, R84). -/
def State.rxPayload (s : State) : List Byte := s.rxBuf.take s.rxLen.toNat

/-- FCS(), the checksum of the frame in flight, over the clamped length (R84). -/
def State.fcs (s : State) : Word32 := checksumOf s.build.checksum ([s.rxDst, s.rxSrc, s.rxLen] ++ s.rxPayload)

/-- The message that the frame in flight makes (R28, R92). -/
def State.rxMessage (s : State) : Message := { src := s.rxSrc, size := s.rxLen, payload := s.rxPayload }

/-! ## Packed CSR words -/

/-- The preamble that a PREAMBLE write sets (R38, R111). -/
def unpackPreamble (v : Word32) : Preamble := { p0 := getLane v 0, p1 := getLane v 1, p2 := getLane v 2, p3 := getLane v 3 }

/-- The word that a PREAMBLE read returns (R38, R110). -/
def Preamble.word (p : Preamble) : Word32 :=
  (p.p3.setWidth 32 <<< 24) ||| (p.p2.setWidth 32 <<< 16) ||| (p.p1.setWidth 32 <<< 8) ||| p.p0.setWidth 32

/-- HEAD_INFO (R41, R105). -/
def State.headInfoWord (s : State) : Word32 :=
  match s.q with
  | [] => 0
  | m :: _ => (m.size.setWidth 32 <<< 8) ||| m.src.setWidth 32

/-- Payload byte number `i` of Q.head, or 0 beyond it and for an empty queue (R45, R106). A message has `size` payload bytes
(R28); outside that invariant the byte is a free value (log 8). -/
def State.headByte (s : State) (i : Nat) : Byte :=
  match s.q with
  | [] => 0
  | m :: _ => if i < m.size.toNat then m.payload.getD i (Config.missingByte i) else 0

/-- HEAD_DATA[k] (R45, R106). -/
def State.headDataWord (s : State) (k : Nat) : Word32 :=
  ((s.headByte (4 * k + 3)).setWidth 32 <<< 24) ||| ((s.headByte (4 * k + 2)).setWidth 32 <<< 16)
    ||| ((s.headByte (4 * k + 1)).setWidth 32 <<< 8) ||| (s.headByte (4 * k)).setWidth 32

/-- PARAMS.QDEPTH: QD, or 0 when unbounded (R43). -/
def QueueDepth.field : QueueDepth → Word32
  | .bounded n => BitVec.ofNat 32 n
  | .unbounded => 0

/-- PARAMS.CKBE (R43). -/
def CkOrder.field : CkOrder → Word32
  | .le => 0
  | .be => 1

/-- PARAMS (R43, R124); the two 4s are CKSZ and PRESZ. -/
def paramsWord (b : Build) : Word32 :=
  (CkOrder.field b.ckOrder <<< 24) ||| (4#32 <<< 20) ||| (4#32 <<< 16) ||| (QueueDepth.field b.queueDepth <<< 8)
    ||| BitVec.ofNat 32 b.maxPayload

/-! ## Condition codes -/

/-- The code of a condition (R127). -/
def Condition.code : Condition → Nat
  | .syncMiss _ _ => 1
  | .lenClamped _ => 2
  | .ckMismatch _ _ => 3
  | .queueFullDrop => 4
  | .rxIoError => 5
  | .popEmpty => 6
  | .timeoutResync _ _ => 7
  | .csrReserved _ => 8

end Sys2Proof.Machine
end

