-- ==== Sys2Proof/Machine/Flags.lean ====
section
/-! DEFINITION. Machine/Flags.lean: the two status flags and what is computed from them (10_state.md R34, R40; 60_exceptions.md
R129), the idle test of the timer (R138), and the counters' increment (R14, R31). -/

namespace Sys2Proof.Machine

/-- AVAIL = (Q.len > 0) (R34). -/
def State.avail (s : State) : Bool := decide (0 < s.q.length)

/-- FULL = (QD is bounded and Q.len = QD) (R34). -/
def State.full (s : State) : Bool :=
  match s.build.queueDepth with
  | .bounded n => decide (s.q.length = n)
  | .unbounded => false

/-- The queue has room for a push: QD is UNBOUNDED or Q.len < QD (R92). -/
def State.hasRoom (s : State) : Bool :=
  match s.build.queueDepth with
  | .bounded n => decide (s.q.length < n)
  | .unbounded => true

/-- The output msg_avail, a level equal to STATUS.AVAIL (R129). -/
def State.msgAvail (s : State) : Bool := s.avail

/-- STATUS (R40, R115). -/
def State.statusWord (s : State) : Word32 :=
  (BitVec.ofNat 32 (min s.q.length 255) <<< 16) ||| (s.pcount.setWidth 32 <<< 8) ||| (s.pstate.code.setWidth 32 <<< 2)
    ||| ((BitVec.ofBool s.full).setWidth 32 <<< 1) ||| (BitVec.ofBool s.avail).setWidth 32

/-- The parser is idle: no frame and no partial preamble in progress (R138). -/
def State.parserIdle (s : State) : Bool := decide (s.pstate = .pre ∧ s.pcount = 0)

/-- `inc32(c)` = (c + 1) mod 2^32 (R14, R31). -/
def inc32 (c : Word32) : Word32 := c + 1

end Sys2Proof.Machine
end

