-- ==== Sys2Proof/Machine/Ops.lean ====
section
/-! DEFINITION. Machine/Ops.lean: the named operations the meanings share. The block has no trap (60_exceptions.md R128, R133):
what stands in the place of taking an exception is recording a condition, `State.raise`, one operation for all eight; there
is nothing to return from (R134). -/

namespace Sys2Proof.Machine

/-! ## The outcome of an event (R15, R17, R127) -/

/-- A new event begins: nothing read, no condition raised. -/
def State.beginEvent (s : State) : State := { s with outcome := { readData := none, conditions := [] } }

/-- `raise COND(info)` (R15): the condition joins the outcome of the current event, after those raised before it. -/
def State.raise (s : State) (c : Condition) : State :=
  { s with outcome := { s.outcome with conditions := s.outcome.conditions ++ [c] } }

/-- `return v` (R15): the result of a CSR read. -/
def State.answer (s : State) (v : Word32) : State := { s with outcome := { s.outcome with readData := some v } }

/-! ## The parser and the timer -/

/-- The parser back to (PRE, 0). -/
def State.toPre (s : State) : State := { s with pstate := .pre, pcount := 0 }

/-- IDLE_CNT to 0 (R33). -/
def State.restartIdle (s : State) : State := { s with idleCnt := 0 }

/-- The parser back to (PRE, 0) and IDLE_CNT to 0 (R113; the timeout does the same, R138). -/
def State.resync (s : State) : State := s.toPre.restartIdle

/-- The timeout fires (R138). -/
def State.fireTimeout (s : State) : State :=
  { (s.raise (.timeoutResync s.pstate s.pcount)).resync with cntTimeout := inc32 s.cntTimeout }

/-- The timer step, at the end of every TICK and RX_ERROR (R138). -/
def State.timerStep (s : State) : State :=
  if s.timeout = 0 ∨ s.parserIdle = true then s.restartIdle
  else if s.timeout.toNat ≤ s.idleCnt.toNat + 1 then s.fireTimeout
  else { s with idleCnt := s.idleCnt + 1 }

/-! ## The queue -/

/-- PUSH: append a validated message (R100). -/
def State.push (s : State) (m : Message) : State := { s with q := s.q ++ [m] }

/-- POP: remove the oldest message, or raise POP_EMPTY (R103). -/
def State.pop (s : State) : State :=
  match s.q with
  | [] => s.raise .popEmpty
  | _ :: rest => { s with q := rest }

/-- CLEAR: drain the queue (R104). -/
def State.clear (s : State) : State := { s with q := [] }

/-- CNT_CLR: clear the five counters (R114). -/
def State.clearCounters (s : State) : State :=
  { s with cntOk := 0, cntCrcErr := 0, cntQDrop := 0, cntLenClamp := 0, cntTimeout := 0 }

/-- A valid frame with room for it is queued (R92, R100). -/
def State.acceptFrame (s : State) : State := { s.push s.rxMessage with cntOk := inc32 s.cntOk }

/-- A valid frame without room for it is dropped, the queue as it was (R92, R102). -/
def State.dropOnFull (s : State) : State := { s.raise .queueFullDrop with cntQDrop := inc32 s.cntQDrop }

/-- A frame whose checksum does not match is dropped (R92). -/
def State.dropOnMismatch (s : State) : State :=
  { s.raise (.ckMismatch s.rxCk s.fcs) with cntCrcErr := inc32 s.cntCrcErr }

/-- The integrity check, in the step of the fourth checksum byte; the parser returns to (PRE, 0) in every case (R92). -/
def State.checkFrame (s : State) : State :=
  (if s.rxCk = s.fcs then (if s.hasRoom = true then s.acceptFrame else s.dropOnFull) else s.dropOnMismatch).toPre

end Sys2Proof.Machine
end

