-- ==== Sys2Proof/Machine/Csr.lean ====
section
/-! DEFINITION. Machine/Csr.lean: the control-register events (42_csr.md R110 to R126). A read changes nothing but the outcome
of the event (20_memory.md R56). -/

namespace Sys2Proof.Machine

/-- RD_PREAMBLE (R110). -/
def execRdPreamble (s : State) : Host.Outcome State Fault Refusal := .next (s.beginEvent.answer s.pre.word)

/-- RD_CTRL (R116). -/
def execRdCtrl (s : State) : Host.Outcome State Fault Refusal := .next (s.beginEvent.answer 0)

/-- RD_STATUS (R115). -/
def execRdStatus (s : State) : Host.Outcome State Fault Refusal := .next (s.beginEvent.answer s.statusWord)

/-- RD_CNT_OK (R117). -/
def execRdCntOk (s : State) : Host.Outcome State Fault Refusal := .next (s.beginEvent.answer s.cntOk)

/-- RD_CNT_CRCERR (R118). -/
def execRdCntCrcErr (s : State) : Host.Outcome State Fault Refusal := .next (s.beginEvent.answer s.cntCrcErr)

/-- RD_CNT_QDROP (R119). -/
def execRdCntQDrop (s : State) : Host.Outcome State Fault Refusal := .next (s.beginEvent.answer s.cntQDrop)

/-- RD_CNT_LENCLAMP (R120). -/
def execRdCntLenClamp (s : State) : Host.Outcome State Fault Refusal := .next (s.beginEvent.answer s.cntLenClamp)

/-- RD_CNT_TIMEOUT (R121). -/
def execRdCntTimeout (s : State) : Host.Outcome State Fault Refusal := .next (s.beginEvent.answer s.cntTimeout)

/-- RD_TIMEOUT (R122). -/
def execRdTimeout (s : State) : Host.Outcome State Fault Refusal := .next (s.beginEvent.answer s.timeout)

/-- RD_PARAMS (R124). -/
def execRdParams (s : State) : Host.Outcome State Fault Refusal := .next (s.beginEvent.answer (paramsWord s.build))

/-- RD_RESERVED (R125): raises CSR_RESERVED with the whole address (log 10) and returns 0. -/
def execRdReserved (a : CsrAddr) (s : State) : Host.Outcome State Fault Refusal :=
  .next ((s.beginEvent.raise (.csrReserved a)).answer 0)

/-- WR_PREAMBLE (R111): P alone; the parser keeps a partial match (R67). -/
def execWrPreamble (v : Word32) (s : State) : Host.Outcome State Fault Refusal :=
  .next { s.beginEvent with pre := unpackPreamble v }

/-- The commands of a CTRL write, in the order POP, CLEAR, RESYNC, CNT_CLR; v[31:4] is ignored (R112). -/
def State.runCommands (s : State) (v : Word32) : State :=
  let s1 := if v.getLsbD 0 then s.pop else s
  let s2 := if v.getLsbD 1 then s1.clear else s1
  let s3 := if v.getLsbD 2 then s2.resync else s2
  if v.getLsbD 3 then s3.clearCounters else s3

/-- WR_CTRL (R112). -/
def execWrCtrl (v : Word32) (s : State) : Host.Outcome State Fault Refusal := .next (s.beginEvent.runCommands v)

/-- WR_TIMEOUT (R123): sets TIMEOUT and restarts IDLE_CNT. -/
def execWrTimeout (v : Word32) (s : State) : Host.Outcome State Fault Refusal :=
  .next { s.beginEvent with timeout := v, idleCnt := 0 }

/-- WR_IGNORED (R126): raises CSR_RESERVED with the whole address (log 10) and changes nothing. -/
def execWrIgnored (a : CsrAddr) (_v : Word32) (s : State) : Host.Outcome State Fault Refusal :=
  .next (s.beginEvent.raise (.csrReserved a))

end Sys2Proof.Machine
end

