-- ==== Sys2Proof/Machine/Queue.lean ====
section
/-! DEFINITION. Machine/Queue.lean: the two reads of the oldest message (41_queue.md R105, R106). POP and CLEAR are commands of
WR_CTRL (Machine/Csr.lean); PUSH is inside RX_BYTE (R100). -/

namespace Sys2Proof.Machine

/-- RD_HEAD_INFO (R105). -/
def execRdHeadInfo (s : State) : Host.Outcome State Fault Refusal := .next (s.beginEvent.answer s.headInfoWord)

/-- RD_HEAD_DATA[k] (R106). -/
def execRdHeadData (k : BitVec 6) (s : State) : Host.Outcome State Fault Refusal :=
  .next (s.beginEvent.answer (s.headDataWord k.toNat))

end Sys2Proof.Machine
end

