-- ==== Sys2Proof/Machine/Receive.lean ====
section
/-! DEFINITION. Machine/Receive.lean: the byte-port events (40_receive.md): RX_BYTE, which dispatches on PSTATE (R83), RX_ERROR
(R93) and TICK (R94). -/

namespace Sys2Proof.Machine

/-- A byte in PRE: the preamble detector. A mismatching byte is not compared with P[0] (R85, R86). -/
def State.rxPre (s : State) (b : Byte) : State :=
  if b = s.pre.get s.pcount then
    if s.pcount = 3 then { s with pstate := .addr, pcount := 0 } else { s with pcount := s.pcount + 1 }
  else { s.raise (.syncMiss b s.pcount) with pcount := 0 }

/-- A byte in ADDR: destination, then source (R87). -/
def State.rxAddr (s : State) (b : Byte) : State :=
  if s.pcount = 0 then { s with rxDst := b, pcount := 1 } else { s with rxSrc := b, pstate := .size, pcount := 0 }

/-- The clamping of the length byte (R88). -/
def State.takeLength (s : State) (b : Byte) : State :=
  if s.build.maxPayload < b.toNat then
    { s.raise (.lenClamped b) with
      rxLen := clampLen s.build.maxPayload b, cntLenClamp := inc32 s.cntLenClamp }
  else { s with rxLen := b }

/-- The parser leaves SIZE: a length of 0 goes straight to CKSUM (R88, R89). -/
def State.leaveSize (s : State) : State := { s with pcount := 0, pstate := if s.rxLen = 0 then .cksum else .payload }

/-- A byte in SIZE: the length byte (R88). -/
def State.rxSize (s : State) (b : Byte) : State := (s.takeLength b).leaveSize

/-- A byte in PAYLOAD; PCOUNT + 1 is a 9-bit sum (R90). -/
def State.rxPayloadByte (s : State) (b : Byte) : State :=
  if s.pcount.toNat + 1 = s.rxLen.toNat then
    { s with rxBuf := s.rxBuf.set s.pcount.toNat b, pstate := .cksum, pcount := 0 }
  else { s with rxBuf := s.rxBuf.set s.pcount.toNat b, pcount := s.pcount + 1 }

/-- A checksum byte goes into RX_CK (R91). -/
def State.takeCkByte (s : State) (b : Byte) : State := { s with rxCk := putCkByte s.build.ckOrder s.pcount b s.rxCk }

/-- A byte in CKSUM: assemble RX_CK, and check the frame on the fourth byte, with that byte written (R91, R92). -/
def State.rxCksum (s : State) (b : Byte) : State :=
  if s.pcount < 3 then { s.takeCkByte b with pcount := s.pcount + 1 } else (s.takeCkByte b).checkFrame

/-- The parser step of RX_BYTE (R83). -/
def State.parse (s : State) (b : Byte) : State :=
  match s.pstate with
  | .pre => s.rxPre b
  | .addr => s.rxAddr b
  | .size => s.rxSize b
  | .payload => s.rxPayloadByte b
  | .cksum => s.rxCksum b

/-- RX_BYTE (R83): the parser step, then IDLE_CNT to 0. -/
def execRxByte (b : Byte) (s : State) : Host.Outcome State Fault Refusal :=
  .next (s.beginEvent.parse b).restartIdle

/-- RX_ERROR (R93): RX_IO_ERROR, then the timer step. -/
def execRxError (s : State) : Host.Outcome State Fault Refusal := .next (s.beginEvent.raise .rxIoError).timerStep

/-- TICK (R94): the timer step and nothing else. -/
def execTick (s : State) : Host.Outcome State Fault Refusal := .next s.beginEvent.timerStep

end Sys2Proof.Machine
end

