-- ==== Sys2Proof/Machine/Reset.lean ====
section
/-! DEFINITION. Machine/Reset.lean: RESET (70_reset_and_hazards.md R145) and the construction of a block with given build
parameters, which refuses values out of range (R128; 93_implementation_defined.md X2, X3, X10). -/

namespace Sys2Proof.Machine

/-- RESET (R145): every element of R147 to its reset value. The build constants stay (R43), and so do the trace words that
follow, which are the environment's. -/
def execReset (s : State) : Host.Outcome State Fault Refusal :=
  .next
    { s.beginEvent with
      pstate := .pre, pcount := 0
      rxDst := 0, rxSrc := 0, rxLen := 0
      rxBuf := List.replicate s.build.maxPayload 0, rxCk := 0
      q := []
      pre := { p0 := 0xAA, p1 := 0xBB, p2 := 0xCC, p3 := 0xDD }
      cntOk := 0, cntCrcErr := 0, cntQDrop := 0, cntLenClamp := 0, cntTimeout := 0
      timeout := 0, idleCnt := 0 }

/-- A block built with `b`, in its reset state, or a refusal of the parameters (R8, R9; log 16). -/
def construct (b : Build) : Host.Outcome State Fault Refusal :=
  if b.Legal then .next (State.initial b) else .refused .illegalBuild

end Sys2Proof.Machine
end

