-- ==== Sys2Proof/Machine/Dispatch.lean ====
section
/-! DEFINITION. Machine/Dispatch.lean: one arm per event, each one direct call of its meaning. -/

namespace Sys2Proof.Machine

def exec (i : Instr) (s : State) : Host.Outcome State Fault Refusal :=
  match i with
  | .tick => Sys2Proof.Machine.execTick s
  | .rxByte b => Sys2Proof.Machine.execRxByte b s
  | .rxError => Sys2Proof.Machine.execRxError s
  | .rdPreamble => Sys2Proof.Machine.execRdPreamble s
  | .rdCtrl => Sys2Proof.Machine.execRdCtrl s
  | .rdStatus => Sys2Proof.Machine.execRdStatus s
  | .rdHeadInfo => Sys2Proof.Machine.execRdHeadInfo s
  | .rdCntOk => Sys2Proof.Machine.execRdCntOk s
  | .rdCntCrcErr => Sys2Proof.Machine.execRdCntCrcErr s
  | .rdCntQDrop => Sys2Proof.Machine.execRdCntQDrop s
  | .rdCntLenClamp => Sys2Proof.Machine.execRdCntLenClamp s
  | .rdCntTimeout => Sys2Proof.Machine.execRdCntTimeout s
  | .rdTimeout => Sys2Proof.Machine.execRdTimeout s
  | .rdParams => Sys2Proof.Machine.execRdParams s
  | .rdHeadData k => Sys2Proof.Machine.execRdHeadData k s
  | .rdReserved a => Sys2Proof.Machine.execRdReserved a s
  | .wrPreamble v => Sys2Proof.Machine.execWrPreamble v s
  | .wrCtrl v => Sys2Proof.Machine.execWrCtrl v s
  | .wrTimeout v => Sys2Proof.Machine.execWrTimeout v s
  | .wrIgnored a v => Sys2Proof.Machine.execWrIgnored a v s
  | .reset => Sys2Proof.Machine.execReset s

end Sys2Proof.Machine
end

