-- ==== Sys2Proof/WellFormed.lean ====
section
/-! DEFINITION. WellFormed.lean: which terms of `Instr` stand for a trace word. Only the two fallback rows carry an operand
that can be ill-formed: their address must be one that no other row of their KIND takes (30_encoding.md R76, 42_csr.md
R125, R126). -/

namespace Sys2Proof

/-- The address of the register an access goes to: ADDR with bits [1:0] ignored (R53). -/
def wordAddr (a : CsrAddr) : CsrAddr := a &&& 0xFFC#12

/-- A reserved CSR address: 0x02C to 0x0FC and 0x200 to 0xFFC, bits [1:0] ignored (R46, R125). -/
def reservedAddr (a : CsrAddr) : Bool :=
  decide (0x02C#12 ≤ wordAddr a ∧ wordAddr a ≤ 0x0FC#12) || decide (0x200#12 ≤ wordAddr a)

/-- An address whose register a write changes or commands: PREAMBLE, CTRL, TIMEOUT (R57, R126). -/
def writableAddr (a : CsrAddr) : Bool :=
  decide (wordAddr a = 0x000#12 ∨ wordAddr a = 0x004#12 ∨ wordAddr a = 0x024#12)

/-- The operands are ones the encoding admits. -/
def Instr.wellFormed : Instr → Bool
  | .rdReserved a => reservedAddr a
  | .wrIgnored a _ => !writableAddr a
  | .tick => true
  | .rxByte _ => true
  | .rxError => true
  | .rdPreamble => true
  | .rdCtrl => true
  | .rdStatus => true
  | .rdHeadInfo => true
  | .rdCntOk => true
  | .rdCntCrcErr => true
  | .rdCntQDrop => true
  | .rdCntLenClamp => true
  | .rdCntTimeout => true
  | .rdTimeout => true
  | .rdParams => true
  | .rdHeadData _ => true
  | .wrPreamble _ => true
  | .wrCtrl _ => true
  | .wrTimeout _ => true
  | .reset => true

end Sys2Proof
end

