-- ==== Sys2Proof/Decode.lean ====
section
/-! DEFINITION. Decode.lean: the trace word (30_encoding.md R73 to R77) and the CSR map (42_csr.md R109): a decoder, total on
every 48-bit word, and the encoder beside it. Illegal words are rejected by name (R77). -/

namespace Sys2Proof

/-! ## The fields of a trace word (R73) -/

/-- KIND, bits [47:44]. -/
def kindField (w : TraceWord) : BitVec 4 := w.extractLsb' 44 4

/-- ADDR, bits [43:32]. -/
def addrField (w : TraceWord) : CsrAddr := w.extractLsb' 32 12

/-- DATA, bits [31:0]. -/
def dataField (w : TraceWord) : Word32 := w.extractLsb' 0 32

/-- The word with the given fields. -/
def mkWord (kind : BitVec 4) (addr : CsrAddr) (data : Word32) : TraceWord := kind ++ addr ++ data

/-! ## The CSR map (R37, R109) -/

/-- The register at an address; ADDR[1:0] is ignored (R53, R109). -/
def csrReg (a : CsrAddr) : CsrReg :=
  let w := a &&& 0xFFC#12
  if w = 0x000#12 then .preamble
  else if w = 0x004#12 then .ctrl
  else if w = 0x008#12 then .status
  else if w = 0x00C#12 then .headInfo
  else if w = 0x010#12 then .cntOk
  else if w = 0x014#12 then .cntCrcErr
  else if w = 0x018#12 then .cntQDrop
  else if w = 0x01C#12 then .cntLenClamp
  else if w = 0x020#12 then .cntTimeout
  else if w = 0x024#12 then .timeout
  else if w = 0x028#12 then .params
  else if 0x100#12 ≤ w ∧ w ≤ 0x1FC#12 then .headData (a.extractLsb' 2 6)
  else .reserved

/-- The CSR_READ row of an address (R76, R109). -/
def readRow (a : CsrAddr) : Instr :=
  match csrReg a with
  | .preamble => .rdPreamble
  | .ctrl => .rdCtrl
  | .status => .rdStatus
  | .headInfo => .rdHeadInfo
  | .cntOk => .rdCntOk
  | .cntCrcErr => .rdCntCrcErr
  | .cntQDrop => .rdCntQDrop
  | .cntLenClamp => .rdCntLenClamp
  | .cntTimeout => .rdCntTimeout
  | .timeout => .rdTimeout
  | .params => .rdParams
  | .headData k => .rdHeadData k
  | .reserved => .rdReserved a

/-- The CSR_WRITE row of an address: read-only and reserved registers have no write rule (R76, R109). -/
def writeRow (a : CsrAddr) (v : Word32) : Instr :=
  match csrReg a with
  | .preamble => .wrPreamble v
  | .ctrl => .wrCtrl v
  | .timeout => .wrTimeout v
  | .status => .wrIgnored a v
  | .headInfo => .wrIgnored a v
  | .cntOk => .wrIgnored a v
  | .cntCrcErr => .wrIgnored a v
  | .cntQDrop => .wrIgnored a v
  | .cntLenClamp => .wrIgnored a v
  | .cntTimeout => .wrIgnored a v
  | .params => .wrIgnored a v
  | .headData _ => .wrIgnored a v
  | .reserved => .wrIgnored a v

/-! ## Decoding (R74, R76, R77) -/

/-- The event a trace word stands for, or the name of what makes the word illegal. -/
def decode (w : TraceWord) : Except IllegalWord Instr :=
  match (kindField w).toNat with
  | 0x0 => if addrField w = 0 ∧ dataField w = 0 then .ok .tick else .error .tickFields
  | 0x1 =>
    if addrField w = 0 ∧ (dataField w).extractLsb' 8 24 = 0 then .ok (.rxByte ((dataField w).extractLsb' 0 8))
    else .error .rxByteFields
  | 0x2 => if addrField w = 0 ∧ dataField w = 0 then .ok .rxError else .error .rxErrorFields
  | 0x3 => if dataField w = 0 then .ok (readRow (addrField w)) else .error .csrReadData
  | 0x4 => .ok (writeRow (addrField w) (dataField w))
  | 0x5 => if addrField w = 0 ∧ dataField w = 0 then .ok .reset else .error .resetFields
  | _ => .error .kind

/-- The instruction the decoder reads from the `nbits` bits of `w`; a trace word has 48 bits, so more set bits than that
are no trace word. -/
def decodeTableWord (nbits w : Nat) : Option Instr :=
  let v := w % 2 ^ nbits
  if v < 2 ^ 48 then (decode (BitVec.ofNat 48 v)).toOption else none

/-! ## Encoding, from the same tables (R73, R74, R76, R80) -/

/-- The address of HEAD_DATA[k], 0x100 + 4k (R45). -/
def headDataAddr (k : BitVec 6) : CsrAddr := 0x1#4 ++ k ++ 0#2

/-- The trace word of an event, with ADDR[1:0] written 0 where it is ignored. -/
def encode : Instr → TraceWord
  | .tick => mkWord 0x0 0 0
  | .rxByte b => mkWord 0x1 0 (0#24 ++ b)
  | .rxError => mkWord 0x2 0 0
  | .rdPreamble => mkWord 0x3 0x000 0
  | .rdCtrl => mkWord 0x3 0x004 0
  | .rdStatus => mkWord 0x3 0x008 0
  | .rdHeadInfo => mkWord 0x3 0x00C 0
  | .rdCntOk => mkWord 0x3 0x010 0
  | .rdCntCrcErr => mkWord 0x3 0x014 0
  | .rdCntQDrop => mkWord 0x3 0x018 0
  | .rdCntLenClamp => mkWord 0x3 0x01C 0
  | .rdCntTimeout => mkWord 0x3 0x020 0
  | .rdTimeout => mkWord 0x3 0x024 0
  | .rdParams => mkWord 0x3 0x028 0
  | .rdHeadData k => mkWord 0x3 (headDataAddr k) 0
  | .rdReserved a => mkWord 0x3 a 0
  | .wrPreamble v => mkWord 0x4 0x000 v
  | .wrCtrl v => mkWord 0x4 0x004 v
  | .wrTimeout v => mkWord 0x4 0x024 v
  | .wrIgnored a v => mkWord 0x4 a v
  | .reset => mkWord 0x5 0 0

end Sys2Proof
end

