-- ==== Sys2Proof/Machine/Fetch.lean ====
section
/-! DEFINITION. Machine/Fetch.lean: how the next event reaches the block. It has no program counter and fetches nothing
(10_state.md R22); its environment delivers a finite trace of words, applied in order (30_encoding.md R73; log 4). -/

namespace Sys2Proof.Machine

/-- The event at the head of the trace and the state without it. An illegal word is refused by name (R77); the end of the
trace is the end of the run (R17; log 5). -/
def fetch (s : State) : Except Refusal (Instr × State) :=
  match s.input with
  | [] => .error .traceEnded
  | w :: rest =>
    match decode w with
    | .ok i => .ok (i, { s with input := rest })
    | .error why => .error (.illegalTraceWord why)

/-- The trace `ws` delivered to the block, before the words it has not applied yet. -/
def State.withTrace (s : State) (ws : List TraceWord) : State := { s with input := ws ++ s.input }

end Sys2Proof.Machine
end

