-- ==== Sys2Proof/Machine/Step.lean ====
section
/-! DEFINITION. Machine/Step.lean: one step applies the next event of the trace, as one atomic step (30_encoding.md R73). -/

namespace Sys2Proof.Machine

/-- Fetch and decode the next trace word, and run its event. -/
def step (s : State) : Host.Outcome State Fault Refusal :=
  match fetch s with
  | .ok (i, t) => exec i t
  | .error r => .refused r

/-- The state with the trace word of `w` delivered as the next event. -/
def State.withFetchWord (s : State) (nbits w : Nat) : State := s.withTrace [BitVec.ofNat 48 (w % 2 ^ nbits)]

end Sys2Proof.Machine
end

