-- ==== Sys2Proof/Machine/Frame.lean ====
section
/-! DEFINITION. Machine/Frame.lean: the frame format on the wire and the reference encoder (30_encoding.md R69, R70). It is a
reference function, not an operation of the block (00_scope.md R4). -/

namespace Sys2Proof.Machine

/-- The fields the checksum covers: destination, source, length, payload (R69, R84). -/
def frameBody (dst src : Byte) (payload : List Byte) : List Byte := [dst, src, BitVec.ofNat 8 payload.length] ++ payload

/-- The bytes of a frame that carries `payload` and the checksum bytes `ck` (R69). -/
def frameBytes (p : Preamble) (dst src : Byte) (payload ck : List Byte) : List Byte :=
  p.bytes ++ frameBody dst src payload ++ ck

/-- `encodeFrame(P, dst, src, data)` (R70), with the sender's M, CK_ORDER and CHECKSUM those of `b`. -/
def encodeFrame (b : Build) (p : Preamble) (dst src : Byte) (data : List Byte) : List Byte :=
  let payload := data.take (min data.length b.maxPayload)
  frameBytes p dst src payload (ckBytes b.ckOrder (checksumOf b.checksum (frameBody dst src payload)))

end Sys2Proof.Machine
end

