-- ==== Sys2Proof/Machine/Asm.lean ====
section
/-! DEFINITION. Machine/Asm.lean: the lines of trace assembly and the pseudo-instructions (30_encoding.md R80, R81), as
abstract syntax: one constructor per row of the tables, and the trace words each stands for (log 19). `popmsg`, whose length
depends on what it reads, is Machine/Popmsg.lean. -/

namespace Sys2Proof.Machine

/-- NAME of R80: the registers of R37 but HEAD_DATA. -/
inductive RegName where
  | preamble
  | ctrl
  | status
  | headInfo
  | cntOk
  | cntCrcErr
  | cntQDrop
  | cntLenClamp
  | cntTimeout
  | timeout
  | params
deriving DecidableEq, Repr

/-- The address of a named register (R37). -/
def RegName.addr : RegName → CsrAddr
  | .preamble => 0x000
  | .ctrl => 0x004
  | .status => 0x008
  | .headInfo => 0x00C
  | .cntOk => 0x010
  | .cntCrcErr => 0x014
  | .cntQDrop => 0x018
  | .cntLenClamp => 0x01C
  | .cntTimeout => 0x020
  | .timeout => 0x024
  | .params => 0x028

/-- One line of trace assembly (R80). -/
inductive AsmLine where
  | tick
  | rx (b : Byte)
  | rxerr
  | rdName (n : RegName)
  | rdAddr (a : CsrAddr)
  | rdHeadData (k : BitVec 6)
  | wr (n : RegName) (v : Word32)
  | reset
deriving DecidableEq, Repr

/-- The trace word of a line (R80). -/
def AsmLine.word : AsmLine → TraceWord
  | .tick => mkWord 0x0 0 0
  | .rx b => mkWord 0x1 0 (b.setWidth 32)
  | .rxerr => mkWord 0x2 0 0
  | .rdName n => mkWord 0x3 n.addr 0
  | .rdAddr a => mkWord 0x3 a 0
  | .rdHeadData k => mkWord 0x3 (0x100 + 4 * k.setWidth 12) 0
  | .wr n v => mkWord 0x4 n.addr v
  | .reset => mkWord 0x5 0 0

/-- The pseudo-instructions with a fixed expansion (R81). -/
inductive Pseudo where
  | pop
  | clear
  | resync
  | cntclr
  | setpre (b0 b1 b2 b3 : Byte)
  | settmo (n : Word32)
  | rxs (bytes : List Byte)
  | ticks (n : Nat)
  | frame (p : Preamble) (dst src : Byte) (data : List Byte)
deriving DecidableEq, Repr

/-- The lines a pseudo-instruction expands to (R81); `frame` encodes with the parameters of `b`. -/
def Pseudo.expand (b : Build) : Pseudo → List AsmLine
  | .pop => [.wr .ctrl 0x00000001]
  | .clear => [.wr .ctrl 0x00000002]
  | .resync => [.wr .ctrl 0x00000004]
  | .cntclr => [.wr .ctrl 0x00000008]
  | .setpre b0 b1 b2 b3 => [.wr .preamble (b3 ++ b2 ++ b1 ++ b0)]
  | .settmo n => [.wr .timeout n]
  | .rxs bytes => bytes.map .rx
  | .ticks n => List.replicate n .tick
  | .frame p dst src data => (encodeFrame b p dst src data).map .rx

end Sys2Proof.Machine
end

