-- ==== Sys2Proof/Machine/Observe.lean ====
section
/-! DEFINITION. Machine/Observe.lean: what a run shows (00_scope.md R17): after each event the value a CSR read returned, the
level of msg_avail and the conditions raised, and at the end the state. -/

namespace Sys2Proof.Machine

/-- The observation of one event (R17 (a), (b), (c)). -/
structure Observation where
  readData : Option Word32
  msgAvail : Bool
  conditions : List Condition
deriving DecidableEq, Repr

/-- What is observed right after the event that led to `s`. -/
def State.observation (s : State) : Observation :=
  { readData := s.outcome.readData, msgAvail := s.msgAvail, conditions := s.outcome.conditions }

/-- The next state, where there is one. -/
def nextState {α φ ρ : Type} (o : Host.Outcome α φ ρ) : Option α :=
  match o with
  | .next a => some a
  | .fault _ => none
  | .refused _ => none

/-- One computation after another, ending at the first that gives no next state. -/
def andThen {α β φ ρ : Type} (o : Host.Outcome α φ ρ) (f : α → Host.Outcome β φ ρ) : Host.Outcome β φ ρ :=
  match o with
  | .next a => f a
  | .fault r => .fault r
  | .refused r => .refused r

/-- The events `is` applied in order, with the observation of each (R64, R73). -/
def runEvents : List Instr → State → Host.Outcome (State × List Observation) Fault Refusal
  | [], s => .next (s, [])
  | i :: is, s => andThen (exec i s) fun t => andThen (runEvents is t) fun r => .next (r.1, t.observation :: r.2)

/-- `n` steps of the machine, with the observation of each event of the trace (R17, R73). -/
def runSteps : Nat → State → Host.Outcome (State × List Observation) Fault Refusal
  | 0, s => .next (s, [])
  | n + 1, s => andThen (step s) fun t => andThen (runSteps n t) fun r => .next (r.1, t.observation :: r.2)

end Sys2Proof.Machine
end

