-- ==== Sys2Proof/Machine/Cycle.lean ====
section
/-! DEFINITION. Machine/Cycle.lean: one clock cycle of the hardware, composed from the events of its trace (20_memory.md R60,
60_exceptions.md R132; log 13). -/

namespace Sys2Proof.Machine

/-- The CSR access of a cycle. -/
inductive CsrAccess where
  | read (a : CsrAddr)
  | write (a : CsrAddr) (v : Word32)
deriving DecidableEq, Repr

/-- The byte-port event of a cycle: exactly one in every cycle (R82). -/
inductive PortEvent where
  | byte (b : Byte)
  | error
  | tick
deriving DecidableEq, Repr

/-- What reaches the block in one cycle (R60). -/
structure ClockCycle where
  rst : Bool
  csr : Option CsrAccess
  port : PortEvent
deriving DecidableEq, Repr

/-- The trace word of a CSR access (R73). -/
def CsrAccess.word : CsrAccess → TraceWord
  | .read a => mkWord 0x3 a 0
  | .write a v => mkWord 0x4 a v

/-- The trace word of a byte-port event (R73). -/
def PortEvent.word : PortEvent → TraceWord
  | .byte b => mkWord 0x1 0 (b.setWidth 32)
  | .error => mkWord 0x2 0 0
  | .tick => mkWord 0x0 0 0

/-- The trace of a cycle: RESET alone where reset is asserted, or else the CSR event, if any, and then the byte-port event
(R60, R73). -/
def ClockCycle.words (c : ClockCycle) : List TraceWord :=
  if c.rst then [mkWord 0x5 0 0] else (c.csr.map CsrAccess.word).toList ++ [c.port.word]

/-- What a cycle gives: the state after it, the value its CSR read returned, and the conditions of its events in their order
(R132). -/
structure CycleResult where
  state : State
  readData : Option Word32
  conditions : List Condition
deriving DecidableEq, Repr

/-- The value a CSR read of the cycle returns: the one its event returned, and 0 in a cycle with reset, where the read itself
is lost (R60). -/
def ClockCycle.readResult (c : ClockCycle) (obs : List Observation) : Option Word32 :=
  if c.rst then
    match c.csr with
    | some (.read _) => some 0
    | some (.write _ _) => none
    | none => none
  else obs.findSome? (·.readData)

/-- One clock cycle (R60). -/
def runCycle (c : ClockCycle) (s : State) : Host.Outcome CycleResult Fault Refusal :=
  andThen (runSteps c.words.length (s.withTrace c.words)) fun r =>
    .next { state := r.1, readData := c.readResult r.2, conditions := r.2.flatMap (·.conditions) }

end Sys2Proof.Machine
end

