-- ==== Sys2Proof/Machine/Popmsg.lean ====
section
/-! DEFINITION. Machine/Popmsg.lean: `popmsg`, the HOST procedure that stands for the source's `pop() -> message | empty`
(41_queue.md R107, 30_encoding.md R81), with no other event between its accesses (log 17). -/

namespace Sys2Proof.Machine

/-- A CSR read and the value it returned. -/
def readCsr (i : Instr) (s : State) : Host.Outcome (Word32 × State) Fault Refusal :=
  andThen (exec i s) fun t => .next (t.outcome.readData.getD 0, t)

/-- HEAD_DATA[k], HEAD_DATA[k+1], ..., `n` of them. -/
def readHeadWords : Nat → Nat → State → Host.Outcome (List Word32 × State) Fault Refusal
  | _, 0, s => .next ([], s)
  | k, n + 1, s =>
    andThen (readCsr (.rdHeadData (BitVec.ofNat 6 k)) s) fun r =>
      andThen (readHeadWords (k + 1) n r.2) fun r' => .next (r.1 :: r'.1, r'.2)

/-- The message that HEAD_INFO and the words of HEAD_DATA hold (R41, R45). -/
def messageOf (info : Word32) (words : List Word32) : Message :=
  { src := getLane info 0, size := getLane info 1, payload := (words.flatMap le32).take (getLane info 1).toNat }

/-- `popmsg`: STATUS, and where AVAIL is 1, HEAD_INFO, HEAD_DATA[k] for k below ⌈size/4⌉, and POP (R107). -/
def popMsg (s : State) : Host.Outcome (Option Message × State) Fault Refusal :=
  andThen (readCsr .rdStatus s) fun st =>
    if st.1.getLsbD 0 then
      andThen (readCsr .rdHeadInfo st.2) fun info =>
        andThen (readHeadWords 0 (((getLane info.1 1).toNat + 3) / 4) info.2) fun words =>
          andThen (exec (.wrCtrl 1) words.2) fun t => .next (some (messageOf info.1 words.1), t)
    else .next (none, st.2)

/-- `n` `popmsg` procedures in a row, and what they returned, in order (R108). -/
def popMsgs : Nat → State → Host.Outcome (List (Option Message) × State) Fault Refusal
  | 0, s => .next ([], s)
  | n + 1, s => andThen (popMsg s) fun r => andThen (popMsgs n r.2) fun r' => .next (r.1 :: r'.1, r'.2)

end Sys2Proof.Machine
end

