-- ==== Sys2Proof/Machine/System.lean ====
section
/-! DEFINITION. Machine/System.lean: several instances of the block side by side (00_scope.md R18, 60_exceptions.md R141; log
15). Each has its own state, its own ports and its own CSR window; an event applies to exactly one of them. -/

namespace Sys2Proof.Machine

/-- One instance in a system: its state, and CSR_BASE, where its own CSR window sits in the system's address space (R58, R141;
log 14). -/
structure Block where
  csrBase : Nat
  state : State
deriving DecidableEq, Repr

/-- Where a register of the instance's CSR window sits in the system's address space (R58). -/
def Block.address (k : Block) (a : CsrAddr) : Nat := k.csrBase + a.toNat

/-- The CSR address that a system address has in the instance's window of 4096 bytes, if it lies in it (R37, R58). -/
def Block.offset (k : Block) (addr : Nat) : Option CsrAddr :=
  if k.csrBase ≤ addr ∧ addr < k.csrBase + 4096 then some (BitVec.ofNat 12 (addr - k.csrBase)) else none

/-- A CSR access by its address in the system. -/
inductive SystemAccess where
  | read (addr : Nat)
  | write (addr : Nat) (v : Word32)
deriving DecidableEq, Repr

/-- The access as it arrives at the instance's own CSR port, if it lies in its window (R141). -/
def Block.access (k : Block) : SystemAccess → Option CsrAccess
  | .read addr => (k.offset addr).map CsrAccess.read
  | .write addr v => (k.offset addr).map fun a => .write a v

/-- The instance with the access, if it lies in its window, as its next event. -/
def Block.accept (k : Block) (acc : SystemAccess) : Block :=
  match k.access acc with
  | some c => { k with state := k.state.withTrace [c.word] }
  | none => k

/-- A CSR access made in the system: each instance takes it exactly if it lies in its own window (R141; log 15). -/
def deliverAccess (sys : List Block) (acc : SystemAccess) : List Block := sys.map fun k => k.accept acc

/-- No two windows share an address: the integrating platform's task (R58). -/
abbrev windowsDisjoint (sys : List Block) : Prop :=
  sys.Pairwise fun j k => j.csrBase + 4096 ≤ k.csrBase ∨ k.csrBase + 4096 ≤ j.csrBase

/-- Instance `n` of a system takes its next event. -/
def stepInstance (sys : List Block) (n : Fin sys.length) : Host.Outcome (List Block) Fault Refusal :=
  match step sys[n].state with
  | .next t => .next (sys.set n { sys[n] with state := t })
  | .fault r => .fault r
  | .refused r => .refused r

end Sys2Proof.Machine
end

