-- ==== Sys2Proof/Safety.lean ====
section
/-! DEFINITION. Safety.lean: what claims about the machine speak of: the invariants of 10_state.md R35, the architectural part
of a state, classes of events, and the conditions software must respect (70_reset_and_hazards.md section 3). -/

namespace Sys2Proof.Machine

/-- The invariants of R35, with the legality of the build (R8, R9), the shape of RX_BUF (R27) and that of a message (R28).
R148: a claim from another state than reset is made only among states that satisfy them. -/
structure State.Inv (s : State) : Prop where
  legal : s.build.Legal
  preBound : s.pstate = .pre → s.pcount.toNat ≤ 3
  addrBound : s.pstate = .addr → s.pcount.toNat ≤ 1
  sizeBound : s.pstate = .size → s.pcount = 0
  payloadBound : s.pstate = .payload → 1 ≤ s.rxLen.toNat ∧ s.pcount.toNat < s.rxLen.toNat
  cksumBound : s.pstate = .cksum → s.pcount.toNat ≤ 3
  lenBound : s.rxLen.toNat ≤ s.build.maxPayload
  bufLength : s.rxBuf.length = s.build.maxPayload
  queueBound : ∀ n, s.build.queueDepth = .bounded n → s.q.length ≤ n
  messages : ∀ m ∈ s.q, m.payload.length = m.size.toNat ∧ m.size.toNat ≤ s.build.maxPayload
  idleBound : s.timeout ≠ 0 → s.idleCnt.toNat < s.timeout.toNat
  idleOff : s.timeout = 0 → s.idleCnt = 0

/-- The state without the two fields of the model's own: the trace still to come and the outcome of the last event. Two states
with the same architectural part are one state of the hardware (R20). -/
def State.arch (s : State) : State := { s with input := [], outcome := { readData := none, conditions := [] } }

/-- The outcome of an event that returned no value and raised the conditions `cs`. -/
def raised (cs : List Condition) : EventOutcome := { readData := none, conditions := cs }

/-- The outcome of a CSR read that returned `v` and raised no condition. -/
def returned (v : Word32) : EventOutcome := { readData := some v, conditions := [] }

/-- The ports an event comes by (R16, R60). -/
inductive EventClass where
  | bytePort
  | csrRead
  | csrWrite
  | reset
deriving DecidableEq, Repr

/-- The class of each event (R74). -/
def eventClass : Instr → EventClass
  | .tick => .bytePort
  | .rxByte _ => .bytePort
  | .rxError => .bytePort
  | .rdPreamble => .csrRead
  | .rdCtrl => .csrRead
  | .rdStatus => .csrRead
  | .rdHeadInfo => .csrRead
  | .rdCntOk => .csrRead
  | .rdCntCrcErr => .csrRead
  | .rdCntQDrop => .csrRead
  | .rdCntLenClamp => .csrRead
  | .rdCntTimeout => .csrRead
  | .rdTimeout => .csrRead
  | .rdParams => .csrRead
  | .rdHeadData _ => .csrRead
  | .rdReserved _ => .csrRead
  | .wrPreamble _ => .csrWrite
  | .wrCtrl _ => .csrWrite
  | .wrTimeout _ => .csrWrite
  | .wrIgnored _ _ => .csrWrite
  | .reset => .reset

/-- The HOST's commands that remove messages: a CTRL write with POP or CLEAR (R63). -/
def removesMessages : Instr → Bool
  | .wrCtrl v => v.getLsbD 0 || v.getLsbD 1
  | _ => false

/-- A byte-less byte-port event, one cycle of the timer (R138). -/
def byteless : Instr → Bool
  | .tick => true
  | .rxError => true
  | _ => false

/-- The byte an event delivers to the parser. -/
def deliveredByte : Instr → Option Byte
  | .rxByte b => some b
  | _ => none

/-- The events that R96 allows between the bytes of a frame: byte-less cycles, and CSR accesses that write neither PREAMBLE
nor CTRL.RESYNC. -/
def allowedInFrame : Instr → Bool
  | .rxByte _ => true
  | .tick => true
  | .rxError => true
  | .wrPreamble _ => false
  | .wrCtrl v => !v.getLsbD 2
  | .reset => false
  | _ => true

/-- No event of an observed run fired the timeout (R96). -/
def noTimeoutFired (obs : List Observation) : Prop := ∀ o ∈ obs, ∀ c ∈ o.conditions, c.code ≠ 7

/-- STATUS.AVAIL as the HOST reads it: the only correct test for an empty queue (R155). -/
def statusAvail (v : Word32) : Bool := v.getLsbD 0

/-- A PREAMBLE write here mixes no two preambles: no partial match is in progress (R153). -/
def preambleWriteSafe (s : State) : Prop := s.pstate = .pre → s.pcount = 0

/-- TIMEOUT is off, or above the transport's byte gap (R139, R160). -/
def timeoutSafe (s : State) : Prop := s.timeout = 0 ∨ Config.byteGapCycles < s.timeout.toNat

/-- The duration of the timeout: TIMEOUT divided by the clock frequency (R139), for a frequency of whole hertz (log 20). -/
def State.timeoutSeconds (s : State) : ℚ := (s.timeout.toNat : ℚ) / ((Config.clkHz : ℕ) : ℚ)

/-- Two states that differ at most in registers of the frame in flight that hold stale values: what PSTATE and PCOUNT say is
still to be rewritten before it is read (R27, R36; 93_implementation_defined.md X6). -/
structure SameLive (s t : State) : Prop where
  pstate : s.pstate = t.pstate
  pcount : s.pcount = t.pcount
  dst : (s.pstate = .addr ∧ s.pcount ≠ 0) ∨ s.pstate = .size ∨ s.pstate = .payload ∨ s.pstate = .cksum → s.rxDst = t.rxDst
  src : s.pstate = .size ∨ s.pstate = .payload ∨ s.pstate = .cksum → s.rxSrc = t.rxSrc
  len : s.pstate = .payload ∨ s.pstate = .cksum → s.rxLen = t.rxLen
  bufInPayload : s.pstate = .payload → ∀ j, j < s.pcount.toNat → s.rxBuf[j]? = t.rxBuf[j]?
  bufInCksum : s.pstate = .cksum → ∀ j, j < s.rxLen.toNat → s.rxBuf[j]? = t.rxBuf[j]?
  ck : s.pstate = .cksum → ∀ j, j < s.pcount.toNat →
    getLane s.rxCk (ckLane s.build.ckOrder j) = getLane t.rxCk (ckLane s.build.ckOrder j)
  pre : s.pre = t.pre
  q : s.q = t.q
  cntOk : s.cntOk = t.cntOk
  cntCrcErr : s.cntCrcErr = t.cntCrcErr
  cntQDrop : s.cntQDrop = t.cntQDrop
  cntLenClamp : s.cntLenClamp = t.cntLenClamp
  cntTimeout : s.cntTimeout = t.cntTimeout
  timeout : s.timeout = t.timeout
  idleCnt : s.idleCnt = t.idleCnt
  build : s.build = t.build
  input : s.input = t.input
  outcome : s.outcome = t.outcome

/-- The byte-port event of a cycle as an event of the block (R60, R73). -/
def PortEvent.instr : PortEvent → Instr
  | .byte b => .rxByte b
  | .error => .rxError
  | .tick => .tick

end Sys2Proof.Machine
end

