-- ==== Sys2Proof/Certificates/Slice0/Obligations.lean ====
section
/-! DEFINITION. Certificates/Slice0/Obligations.lean: the statements for the provers. Each docstring names the rules of spec/
it formalises, or says that it is the model's own choice and names the log entry. Where a statement is about states within
the invariants of 10_state.md R35, that premise is R148's. -/

open Sys2Proof Sys2Proof.Machine

/-! ## Encoding -/

/-- Decode and encode agree, for every well-formed event with every operand (R73 to R76). -/
def Obligations.DecodeEncodeAgree : Prop := ∀ i : Instr, i.wellFormed = true → decode (encode i) = .ok i

/-- What the decoder accepts is well-formed, and its encoding is the word itself but for ADDR[1:0], bits 33:32, which a CSR
access ignores (R53, R75, R76). -/
def Obligations.DecodedWordsReencode : Prop :=
  ∀ (w : TraceWord) (i : Instr), decode w = .ok i →
    i.wellFormed = true ∧ encode i ||| 0x000300000000#48 = w ||| 0x000300000000#48

/-- The illegal trace words are exactly those of R77; each is refused and never run, and every other word runs. -/
def Obligations.IllegalWordsAreRefused : Prop :=
  ∀ (s : State) (w : TraceWord) (rest : List TraceWord), s.input = w :: rest →
    let kind := (w.extractLsb' 44 4).toNat
    if 0x6 ≤ kind
        ∨ ((kind = 0x0 ∨ kind = 0x2 ∨ kind = 0x5) ∧ w.extractLsb' 0 44 ≠ 0)
        ∨ (kind = 0x1 ∧ (w.extractLsb' 32 12 ≠ 0 ∨ w.extractLsb' 8 24 ≠ 0))
        ∨ (kind = 0x3 ∧ w.extractLsb' 0 32 ≠ 0) then
      ∃ why, step s = .refused (.illegalTraceWord why)
    else ∃ t, step s = .next t

/-- R109: a CSR access goes to the register at the address with bits [1:0] ignored. A read goes to that register's read row; a
write goes to PREAMBLE, CTRL or TIMEOUT, and at every other address to WR_IGNORED. -/
def Obligations.CsrDecodeFollowsTheMap : Prop :=
  ∀ w : TraceWord,
    let a := w.extractLsb' 32 12
    let v := w.extractLsb' 0 32
    let r := a.toNat / 4 * 4
    (w.extractLsb' 44 4 = 0x3#4 → v = 0#32 → decode w = .ok
      (if r = 0x000 then .rdPreamble else if r = 0x004 then .rdCtrl else if r = 0x008 then .rdStatus
       else if r = 0x00C then .rdHeadInfo else if r = 0x010 then .rdCntOk else if r = 0x014 then .rdCntCrcErr
       else if r = 0x018 then .rdCntQDrop else if r = 0x01C then .rdCntLenClamp else if r = 0x020 then .rdCntTimeout
       else if r = 0x024 then .rdTimeout else if r = 0x028 then .rdParams
       else if 0x100 ≤ r ∧ r ≤ 0x1FC then .rdHeadData (BitVec.ofNat 6 ((r - 0x100) / 4)) else .rdReserved a))
    ∧ (w.extractLsb' 44 4 = 0x4#4 → decode w = .ok
      (if r = 0x000 then .wrPreamble v else if r = 0x004 then .wrCtrl v else if r = 0x024 then .wrTimeout v
       else .wrIgnored a v))

/-- Words written out from the encoding tables decode as the spec's vectors V-L2-ENC-1 to V-L2-ENC-9 and the examples of R80
and R81 say. -/
def Obligations.SampleWordsDecode : Prop :=
  decode 0x000000000000 = .ok .tick ∧ decode 0x1000000000AA = .ok (.rxByte 0xAA)
    ∧ decode 0x200000000000 = .ok .rxError ∧ decode 0x300800000000 = .ok .rdStatus
    ∧ decode 0x311C00000000 = .ok (.rdHeadData 7) ∧ decode 0x303000000000 = .ok (.rdReserved 0x030)
    ∧ decode 0x400004030201 = .ok (.wrPreamble 0x04030201) ∧ decode 0x400400000001 = .ok (.wrCtrl 1)
    ∧ decode 0x402400000003 = .ok (.wrTimeout 3) ∧ decode 0x40280000FFFF = .ok (.wrIgnored 0x028 0x0000FFFF)
    ∧ decode 0x500000000000 = .ok .reset

/-- Every line of trace assembly is the word of the event that R80 names, each register by its name. A line `rd` with an address
goes to the register there, bits [1:0] ignored (R109). -/
def Obligations.AssemblyLinesDecode : Prop :=
  ∀ line : AsmLine, decode line.word = .ok
    (match line with
     | .tick => .tick
     | .rx b => .rxByte b
     | .rxerr => .rxError
     | .rdName .preamble => .rdPreamble
     | .rdName .ctrl => .rdCtrl
     | .rdName .status => .rdStatus
     | .rdName .headInfo => .rdHeadInfo
     | .rdName .cntOk => .rdCntOk
     | .rdName .cntCrcErr => .rdCntCrcErr
     | .rdName .cntQDrop => .rdCntQDrop
     | .rdName .cntLenClamp => .rdCntLenClamp
     | .rdName .cntTimeout => .rdCntTimeout
     | .rdName .timeout => .rdTimeout
     | .rdName .params => .rdParams
     | .rdAddr a =>
       let r := a.toNat / 4 * 4
       if r = 0x000 then .rdPreamble else if r = 0x004 then .rdCtrl else if r = 0x008 then .rdStatus
       else if r = 0x00C then .rdHeadInfo else if r = 0x010 then .rdCntOk else if r = 0x014 then .rdCntCrcErr
       else if r = 0x018 then .rdCntQDrop else if r = 0x01C then .rdCntLenClamp else if r = 0x020 then .rdCntTimeout
       else if r = 0x024 then .rdTimeout else if r = 0x028 then .rdParams
       else if 0x100 ≤ r ∧ r ≤ 0x1FC then .rdHeadData (BitVec.ofNat 6 ((r - 0x100) / 4)) else .rdReserved a
     | .rdHeadData k => .rdHeadData k
     | .wr .preamble v => .wrPreamble v
     | .wr .ctrl v => .wrCtrl v
     | .wr .status v => .wrIgnored 0x008 v
     | .wr .headInfo v => .wrIgnored 0x00C v
     | .wr .cntOk v => .wrIgnored 0x010 v
     | .wr .cntCrcErr v => .wrIgnored 0x014 v
     | .wr .cntQDrop v => .wrIgnored 0x018 v
     | .wr .cntLenClamp v => .wrIgnored 0x01C v
     | .wr .cntTimeout v => .wrIgnored 0x020 v
     | .wr .timeout v => .wrTimeout v
     | .wr .params v => .wrIgnored 0x028 v
     | .reset => .reset)

/-! ## The step -/

/-- A step runs the event its trace word decodes to, on the state without that word (R73; log 4). -/
def Obligations.StepRunsDecodedEvent : Prop :=
  ∀ (s : State) (w : TraceWord) (rest : List TraceWord) (i : Instr), s.input = w :: rest → decode w = .ok i →
    step s = exec i { s with input := rest }

/-- A trace is a list of words applied in order, each as one step: running a trace is running its events (R64, R73). -/
def Obligations.TraceRunsItsEventsInOrder : Prop :=
  ∀ (ws : List TraceWord) (is : List Instr) (s : State), ws.map decode = is.map .ok →
    runSteps ws.length (s.withTrace ws) = runEvents is s

/-- The block never halts and never refuses an event (R128). -/
def Obligations.EveryEventCompletes : Prop := ∀ (i : Instr) (s : State), ∃ t, exec i s = .next t

/-! ## RX_BYTE -/

/-- R85, with R83: a byte in PRE. -/
def Obligations.PreambleDetector : Prop :=
  ∀ (s : State) (b : Byte), s.pstate = .pre → s.pcount.toNat ≤ 3 →
    exec (.rxByte b) s = .next
      (if [s.pre.p0, s.pre.p1, s.pre.p2, s.pre.p3][s.pcount.toNat]? = some b then
        if s.pcount = 3 then { s with pstate := .addr, pcount := 0, idleCnt := 0, outcome := raised [] }
        else { s with pcount := s.pcount + 1, idleCnt := 0, outcome := raised [] }
       else { s with pcount := 0, idleCnt := 0, outcome := raised [.syncMiss b s.pcount] })

/-- R86 (a): an overlapping preamble does not synchronize. -/
def Obligations.OverlappingPreambleIsMissed : Prop :=
  ∀ s : State, s.pstate = .pre → s.pcount = 0 → s.pre = { p0 := 0xAA, p1 := 0xBB, p2 := 0xCC, p3 := 0xDD } →
    ∃ t obs, runEvents ([0xAA, 0xBB, 0xAA, 0xBB, 0xCC, 0xDD].map Instr.rxByte) s = .next (t, obs)
      ∧ t.pstate = .pre ∧ t.pcount = 0 ∧ t.q = s.q

/-- R87, with R83: a byte in ADDR. -/
def Obligations.AddressBytes : Prop :=
  ∀ (s : State) (b : Byte), s.pstate = .addr → s.pcount.toNat ≤ 1 →
    exec (.rxByte b) s = .next
      (if s.pcount = 0 then { s with rxDst := b, pcount := 1, idleCnt := 0, outcome := raised [] }
       else { s with rxSrc := b, pstate := .size, pcount := 0, idleCnt := 0, outcome := raised [] })

/-- R88 and R89, with R83: the length byte in SIZE. -/
def Obligations.LengthByteIsClamped : Prop :=
  ∀ (s : State) (b : Byte), s.pstate = .size → s.build.Legal →
    let m := s.build.maxPayload
    let n := min b.toNat m
    exec (.rxByte b) s = .next
      { s with
        rxLen := BitVec.ofNat 8 n, pcount := 0, pstate := if n = 0 then .cksum else .payload
        cntLenClamp := if b.toNat > m then s.cntLenClamp + 1 else s.cntLenClamp
        idleCnt := 0, outcome := raised (if b.toNat > m then [.lenClamped b] else []) }

/-- R90, with R83: a byte in PAYLOAD goes into RX_BUF[PCOUNT] and into no other element. -/
def Obligations.PayloadByteIsStored : Prop :=
  ∀ (s : State) (b : Byte), s.Inv → s.pstate = .payload →
    ∃ t, exec (.rxByte b) s = .next t
      ∧ (∀ j : Nat, t.rxBuf[j]? = if j = s.pcount.toNat then some b else s.rxBuf[j]?)
      ∧ t = (if s.pcount.toNat + 1 = s.rxLen.toNat then
              { s with rxBuf := t.rxBuf, pstate := .cksum, pcount := 0, idleCnt := 0, outcome := raised [] }
             else { s with rxBuf := t.rxBuf, pcount := s.pcount + 1, idleCnt := 0, outcome := raised [] })

/-- R91, with R83: a byte in CKSUM goes into its byte of RX_CK in CK_ORDER, and before the fourth one nothing else happens. -/
def Obligations.ChecksumByteIsAssembled : Prop :=
  ∀ (s : State) (b : Byte), s.pstate = .cksum → s.pcount.toNat ≤ 3 →
    ∃ t, exec (.rxByte b) s = .next t
      ∧ (∀ j : Nat, j < 4 → t.rxCk.extractLsb' (8 * j) 8 =
          if j = (if s.build.ckOrder = .le then s.pcount.toNat else 3 - s.pcount.toNat) then b
          else s.rxCk.extractLsb' (8 * j) 8)
      ∧ (s.pcount.toNat < 3 →
          t = { s with rxCk := t.rxCk, pcount := s.pcount + 1, idleCnt := 0, outcome := raised [] })

/-- R92, with R84, R102 and R83: the fourth checksum byte. RX_CK with the byte written is what R91 says of it. -/
def Obligations.IntegrityCheckOutcome : Prop :=
  ∀ (s : State) (b : Byte), s.pstate = .cksum → s.pcount = 3 →
    let fcs := checksumOf s.build.checksum ([s.rxDst, s.rxSrc, s.rxLen] ++ s.rxBuf.take s.rxLen.toNat)
    let room : Prop := ∀ n, s.build.queueDepth = .bounded n → s.q.length < n
    ∃ t, exec (.rxByte b) s = .next t
      ∧ t.rxCk = (if s.build.ckOrder = .le then b ++ s.rxCk.extractLsb' 0 24 else s.rxCk.extractLsb' 8 24 ++ b)
      ∧ (if t.rxCk = fcs then
          (room → t =
            { s with
              rxCk := t.rxCk, q := s.q ++ [{ src := s.rxSrc, size := s.rxLen, payload := s.rxBuf.take s.rxLen.toNat }]
              cntOk := s.cntOk + 1, pstate := .pre, pcount := 0, idleCnt := 0, outcome := raised [] })
          ∧ (¬room → t =
            { s with
              rxCk := t.rxCk, cntQDrop := s.cntQDrop + 1, pstate := .pre, pcount := 0, idleCnt := 0
              outcome := raised [.queueFullDrop] })
         else t =
            { s with
              rxCk := t.rxCk, cntCrcErr := s.cntCrcErr + 1, pstate := .pre, pcount := 0, idleCnt := 0
              outcome := raised [.ckMismatch t.rxCk fcs] })

/-- R71: after the preamble the receiver takes in exactly 3 + min(lenbyte, M) + 4 bytes, and only then searches for a
preamble again. -/
def Obligations.FrameTakesInItsLength : Prop :=
  ∀ (s : State) (dst src len : Byte) (rest : List Byte), s.Inv → s.pstate = .addr → s.pcount = 0 →
    rest.length = min len.toNat s.build.maxPayload + 4 →
    (∃ t obs, runEvents ((dst :: src :: len :: rest).map Instr.rxByte) s = .next (t, obs) ∧ t.pstate = .pre ∧ t.pcount = 0)
      ∧ ∀ n, n < rest.length + 3 →
          ∃ t obs, runEvents (((dst :: src :: len :: rest).take n).map Instr.rxByte) s = .next (t, obs) ∧ t.pstate ≠ .pre

/-- R84, R92, R97: whatever the four checksum bytes of a frame are, its message is queued exactly when they stand for the
CHECKSUM of its fields, in CK_ORDER, and there is room; and the parser ends at (PRE, 0). -/
def Obligations.FrameIsQueuedIffItsChecksumMatches : Prop :=
  ∀ (s : State) (dst src : Byte) (payload : List Byte) (c0 c1 c2 c3 : Byte), s.Inv → s.pstate = .pre → s.pcount = 0 →
    payload.length ≤ s.build.maxPayload →
    let size := BitVec.ofNat 8 payload.length
    let fcs := checksumOf s.build.checksum ([dst, src, size] ++ payload)
    let ck : Word32 := if s.build.ckOrder = .le then c3 ++ c2 ++ c1 ++ c0 else c0 ++ c1 ++ c2 ++ c3
    let room : Prop := ∀ n, s.build.queueDepth = .bounded n → s.q.length < n
    ∃ t obs, runEvents ((frameBytes s.pre dst src payload [c0, c1, c2, c3]).map Instr.rxByte) s = .next (t, obs)
      ∧ t.pstate = .pre ∧ t.pcount = 0 ∧ t.pre = s.pre ∧ t.build = s.build ∧ t.timeout = s.timeout
      ∧ t.cntLenClamp = s.cntLenClamp ∧ t.cntTimeout = s.cntTimeout
      ∧ (if ck = fcs then
          (room → t.q = s.q ++ [{ src := src, size := size, payload := payload }] ∧ t.cntOk = s.cntOk + 1
            ∧ t.cntCrcErr = s.cntCrcErr ∧ t.cntQDrop = s.cntQDrop)
          ∧ (¬room → t.q = s.q ∧ t.cntQDrop = s.cntQDrop + 1 ∧ t.cntOk = s.cntOk ∧ t.cntCrcErr = s.cntCrcErr)
         else t.q = s.q ∧ t.cntCrcErr = s.cntCrcErr + 1 ∧ t.cntOk = s.cntOk ∧ t.cntQDrop = s.cntQDrop)

/-- R96, for a frame whose bytes arrive one after another: encoding a frame and feeding its bytes queues its message. -/
def Obligations.FrameRoundTrip : Prop :=
  ∀ (s : State) (dst src : Byte) (data : List Byte), s.Inv → s.pstate = .pre → s.pcount = 0 →
    data.length ≤ s.build.maxPayload →
    (∀ n, s.build.queueDepth = .bounded n → s.q.length < n) →
    ∃ t obs, runEvents ((encodeFrame s.build s.pre dst src data).map Instr.rxByte) s = .next (t, obs)
      ∧ t.q = s.q ++ [{ src := src, size := BitVec.ofNat 8 data.length, payload := data }]
      ∧ t.cntOk = s.cntOk + 1 ∧ t.pstate = .pre ∧ t.pcount = 0
      ∧ t.pre = s.pre ∧ t.build = s.build ∧ t.timeout = s.timeout ∧ t.cntCrcErr = s.cntCrcErr
      ∧ t.cntQDrop = s.cntQDrop ∧ t.cntLenClamp = s.cntLenClamp ∧ t.cntTimeout = s.cntTimeout
      ∧ ∀ o ∈ obs, o.conditions = []

/-- R96 in full: between the bytes of the frame any events that R96 allows. No event before the last byte changes Q by a push,
and the last byte pushes the message. -/
def Obligations.FrameRoundTripInterleaved : Prop :=
  ∀ (s : State) (dst src last : Byte) (data : List Byte) (before : List Instr), s.Inv → s.pstate = .pre → s.pcount = 0 →
    data.length ≤ s.build.maxPayload →
    (∀ n, s.build.queueDepth = .bounded n → s.q.length < n) →
    (before.filterMap deliveredByte) ++ [last] = encodeFrame s.build s.pre dst src data →
    (∀ i ∈ before, allowedInFrame i = true) →
    (∀ u obs, runEvents before s = .next (u, obs) → noTimeoutFired obs) →
    ∃ u obs t, runEvents before s = .next (u, obs) ∧ exec (.rxByte last) u = .next t
      ∧ t.q = u.q ++ [{ src := src, size := BitVec.ofNat 8 data.length, payload := data }]
      ∧ t.cntOk = u.cntOk + 1 ∧ t.pstate = .pre ∧ t.pcount = 0
      ∧ ∀ (n : Nat) (v v' : State) (b : Byte) (obs' : List Observation),
          runEvents (before.take n) s = .next (v, obs') → before[n]? = some (.rxByte b) → exec (.rxByte b) v = .next v' →
            v'.q = v.q ∧ v'.cntOk = v.cntOk

/-- R98: noise that pushes nothing and leaves the detector at (PRE, 0) leaves no trace in the frame that follows it. -/
def Obligations.NoiseLeavesNoTrace : Prop :=
  ∀ (s u : State) (obs : List Observation) (noise : List Byte) (dst src : Byte) (data : List Byte), s.Inv →
    s.pstate = .pre → s.pcount = 0 →
    runEvents (noise.map Instr.rxByte) s = .next (u, obs) → u.pstate = .pre → u.pcount = 0 → u.q = s.q →
    data.length ≤ s.build.maxPayload →
    (∀ n, s.build.queueDepth = .bounded n → s.q.length < n) →
    ∃ t obs', runEvents ((noise ++ encodeFrame s.build s.pre dst src data).map Instr.rxByte) s = .next (t, obs')
      ∧ t.q = s.q ++ [{ src := src, size := BitVec.ofNat 8 data.length, payload := data }]
      ∧ t.pstate = .pre ∧ t.pcount = 0

/-- R10, R95: the law of CHECKSUM and `concat`, so that a checksum computed as bytes arrive is the one over the whole list. -/
def Obligations.ChecksumConcatLaw : Prop :=
  ∀ (alg : ChecksumAlg) (a b : List Byte), checksumConcat alg (checksumOf alg a) b = checksumOf alg (a ++ b)

/-- The model's choice of a form for CHECKSUM (log 2) is exactly R10's parameter: every total function that has a `concat` with
the law of R10 is a fold of the model's, `concat` included; every such fold has the law; and the model's own CHECKSUM and
`concat` are such folds. -/
def Obligations.EveryChecksumIsAFold : Prop :=
  (∀ (checksum : List Byte → Word32) (concat : Word32 → List Byte → Word32),
    (∀ a b, concat (checksum a) b = checksum (a ++ b)) →
    ∃ (update : Word32 → Byte → Word32) (init : Word32),
      (∀ l, checksum l = foldChecksum update init l)
        ∧ ∀ a b, concat (checksum a) b = foldChecksum update (foldChecksum update init a) b)
  ∧ (∀ (update : Word32 → Byte → Word32) (init : Word32) (a b : List Byte),
      foldChecksum update (foldChecksum update init a) b = foldChecksum update init (a ++ b))
  ∧ ∀ (alg : ChecksumAlg) (c : Word32) (l : List Byte),
      checksumOf alg l = foldChecksum (checksumUpdate alg) (checksumInit alg) l
        ∧ checksumConcat alg c l = foldChecksum (checksumUpdate alg) c l

/-! ## The timer, TICK and RX_ERROR -/

/-- R94, with R138: TICK, the word of zeros. -/
def Obligations.TickRunsTheTimer : Prop :=
  decode 0x000000000000 = .ok .tick ∧ ∀ s : State, exec .tick s = .next
    (if s.timeout = 0 ∨ (s.pstate = .pre ∧ s.pcount = 0) then { s with idleCnt := 0, outcome := raised [] }
     else if s.idleCnt.toNat + 1 ≥ s.timeout.toNat then
      { s with
        pstate := .pre, pcount := 0, idleCnt := 0, cntTimeout := s.cntTimeout + 1
        outcome := raised [.timeoutResync s.pstate s.pcount] }
     else { s with idleCnt := s.idleCnt + 1, outcome := raised [] })

/-- R93, with R138: RX_ERROR raises RX_IO_ERROR and then does what TICK does. -/
def Obligations.RxErrorRunsTheTimer : Prop :=
  decode 0x200000000000 = .ok .rxError ∧ ∀ s : State, exec .rxError s = .next
    (if s.timeout = 0 ∨ (s.pstate = .pre ∧ s.pcount = 0) then { s with idleCnt := 0, outcome := raised [.rxIoError] }
     else if s.idleCnt.toNat + 1 ≥ s.timeout.toNat then
      { s with
        pstate := .pre, pcount := 0, idleCnt := 0, cntTimeout := s.cntTimeout + 1
        outcome := raised [.rxIoError, .timeoutResync s.pstate s.pcount] }
     else { s with idleCnt := s.idleCnt + 1, outcome := raised [.rxIoError] })

/-- R138: with TIMEOUT = N ≠ 0 and a parser that is not idle, the N-th consecutive byte-less cycle after IDLE_CNT was 0 forces
it back to (PRE, 0) and counts it, and none before it does. -/
def Obligations.TimeoutFiresOnTheNthCycle : Prop :=
  ∀ (s : State) (es : List Instr), s.timeout ≠ 0 → s.idleCnt = 0 → ¬(s.pstate = .pre ∧ s.pcount = 0) →
    (∀ i ∈ es, byteless i = true) →
    (es.length < s.timeout.toNat → ∃ t obs, runEvents es s = .next (t, obs)
        ∧ t = { s with idleCnt := BitVec.ofNat 32 es.length, outcome := t.outcome })
      ∧ (es.length = s.timeout.toNat → ∃ t obs, runEvents es s = .next (t, obs)
        ∧ t = { s with pstate := .pre, pcount := 0, idleCnt := 0, cntTimeout := s.cntTimeout + 1, outcome := t.outcome }
        ∧ .timeoutResync s.pstate s.pcount ∈ t.outcome.conditions)

/-! ## CTRL and the queue -/

/-- R112, with R103, R104, R113, R114: a CTRL write runs the commands of bits 0 to 3 in that order and ignores the others. -/
def Obligations.CtrlWriteRunsItsCommands : Prop :=
  ∀ (s : State) (v : Word32), decode (0x4004#16 ++ v) = .ok (.wrCtrl v)
    ∧ exec (.wrCtrl v) s = .next
    { s with
      q := if v.getLsbD 1 then [] else if v.getLsbD 0 then s.q.tail else s.q
      pstate := if v.getLsbD 2 then .pre else s.pstate
      pcount := if v.getLsbD 2 then 0 else s.pcount
      idleCnt := if v.getLsbD 2 then 0 else s.idleCnt
      cntOk := if v.getLsbD 3 then 0 else s.cntOk
      cntCrcErr := if v.getLsbD 3 then 0 else s.cntCrcErr
      cntQDrop := if v.getLsbD 3 then 0 else s.cntQDrop
      cntLenClamp := if v.getLsbD 3 then 0 else s.cntLenClamp
      cntTimeout := if v.getLsbD 3 then 0 else s.cntTimeout
      outcome := raised (if v.getLsbD 0 = true ∧ s.q = [] then [.popEmpty] else []) }

/-- R105, R41: HEAD_INFO. -/
def Obligations.HeadInfoRead : Prop :=
  decode 0x300C00000000 = .ok .rdHeadInfo ∧ ∀ s : State, ∃ v, exec .rdHeadInfo s = .next { s with outcome := returned v }
    ∧ match s.q with
      | [] => v = 0
      | m :: _ => v.extractLsb' 0 8 = m.src ∧ v.extractLsb' 8 8 = m.size ∧ v.extractLsb' 16 16 = 0

/-- R106, R45: HEAD_DATA[k]; byte lane j reads payload byte 4k + j, or 0 beyond the payload and for an empty queue. -/
def Obligations.HeadDataRead : Prop :=
  ∀ (s : State) (k : BitVec 6), s.Inv → decode (0x3#4 ++ 0x1#4 ++ k ++ 0#34) = .ok (.rdHeadData k)
    ∧ ∃ v, exec (.rdHeadData k) s = .next { s with outcome := returned v }
    ∧ ∀ j : Nat, j < 4 → some (v.extractLsb' (8 * j) 8) =
        match s.q with
        | [] => some 0
        | m :: _ => if 4 * k.toNat + j < m.size.toNat then m.payload[4 * k.toNat + j]? else some 0

/-- R107: `popmsg` returns the message that was Q.head and removes it, or the empty indicator. That no other event stands between
its accesses is the model's (log 17, DEDUCED). -/
def Obligations.PopmsgReturnsTheHead : Prop :=
  ∀ s : State, s.Inv → ∃ t, popMsg s = .next (s.q.head?, t) ∧ t.arch = { s with q := s.q.tail }.arch

/-- R108: frames fed one after another into an empty queue with room for each are returned by `popmsg` in that order. That no
other event stands between the accesses of a `popmsg` is the model's (log 17, DEDUCED). -/
def Obligations.FramesPopInOrder : Prop :=
  ∀ (s : State) (frames : List (Byte × Byte × List Byte)), s.Inv → s.pstate = .pre → s.pcount = 0 → s.q = [] →
    (∀ f ∈ frames, f.2.2.length ≤ s.build.maxPayload) →
    (∀ n, s.build.queueDepth = .bounded n → frames.length ≤ n) →
    ∃ t obs u, runEvents ((frames.flatMap fun f => encodeFrame s.build s.pre f.1 f.2.1 f.2.2).map Instr.rxByte) s = .next (t, obs)
      ∧ popMsgs frames.length t = .next
          (frames.map fun f => some { src := f.2.1, size := BitVec.ofNat 8 f.2.2.length, payload := f.2.2 }, u)
      ∧ u.q = []

/-- R63, R99, R101: Q changes only by a push of RX_BYTE at the tail, by the HOST's POP and CLEAR, and by RESET. -/
def Obligations.QueueHasOneProducerAndOneConsumer : Prop :=
  ∀ (i : Instr) (s t : State), exec i s = .next t →
    t.q = s.q
      ∨ (∃ b m, i = .rxByte b ∧ t.q = s.q ++ [m])
      ∨ (∃ v, i = .wrCtrl v ∧ v.getLsbD 0 = true ∧ t.q = s.q.tail)
      ∨ (∃ v, i = .wrCtrl v ∧ v.getLsbD 1 = true ∧ t.q = [])
      ∨ (i = .reset ∧ t.q = [])

/-- R63, R101: once Q is not empty, its head, HEAD_INFO and HEAD_DATA stay as they are until the HOST writes POP or CLEAR or
RESET occurs. -/
def Obligations.HeadIsStableUntilTheHostActs : Prop :=
  ∀ (es : List Instr) (s t : State) (obs : List Observation) (m : Message) (rest : List Message), s.q = m :: rest →
    (∀ i ∈ es, i ≠ .reset ∧ removesMessages i = false) → runEvents es s = .next (t, obs) →
    (∃ more, t.q = m :: rest ++ more) ∧ t.headInfoWord = s.headInfoWord ∧ ∀ k, t.headDataWord k = s.headDataWord k

/-! ## The other registers -/

/-- R110: PREAMBLE reads P, byte P[i] in bits [8i+7:8i]. -/
def Obligations.PreambleRead : Prop :=
  decode 0x300000000000 = .ok .rdPreamble ∧ ∀ s : State,
    exec .rdPreamble s = .next { s with outcome := returned (s.pre.p3 ++ s.pre.p2 ++ s.pre.p1 ++ s.pre.p0) }

/-- R111: a PREAMBLE write sets P and nothing else. -/
def Obligations.PreambleWrite : Prop :=
  ∀ (s : State) (v : Word32), decode (0x4000#16 ++ v) = .ok (.wrPreamble v)
    ∧ exec (.wrPreamble v) s = .next
    { s with
      pre := { p0 := v.extractLsb' 0 8, p1 := v.extractLsb' 8 8, p2 := v.extractLsb' 16 8, p3 := v.extractLsb' 24 8 }
      outcome := raised [] }

/-- R38: PREAMBLE reads back exactly what was last written. -/
def Obligations.PreambleReadsBackWhatWasWritten : Prop :=
  ∀ (s t : State) (v : Word32), exec (.wrPreamble v) s = .next t → exec .rdPreamble t = .next { t with outcome := returned v }

/-- R115, R40, R34: the fields of STATUS. -/
def Obligations.StatusRead : Prop :=
  decode 0x300800000000 = .ok .rdStatus ∧ ∀ s : State, s.Inv →
    ∃ v, exec .rdStatus s = .next { s with outcome := returned v }
    ∧ (v.getLsbD 0 = true ↔ 0 < s.q.length)
    ∧ (v.getLsbD 1 = true ↔ s.build.queueDepth = .bounded s.q.length)
    ∧ (v.extractLsb' 2 3).toNat = (match s.pstate with | .pre => 0 | .addr => 1 | .size => 2 | .payload => 3 | .cksum => 4)
    ∧ v.extractLsb' 5 3 = 0 ∧ v.extractLsb' 8 8 = s.pcount
    ∧ (v.extractLsb' 16 8).toNat = min s.q.length 255 ∧ v.extractLsb' 24 8 = 0

/-- R117 to R121: each counter register returns its counter. -/
def Obligations.CounterReads : Prop :=
  (decode 0x301000000000 = .ok .rdCntOk ∧ decode 0x301400000000 = .ok .rdCntCrcErr ∧ decode 0x301800000000 = .ok .rdCntQDrop
    ∧ decode 0x301C00000000 = .ok .rdCntLenClamp ∧ decode 0x302000000000 = .ok .rdCntTimeout) ∧
  ∀ s : State, exec .rdCntOk s = .next { s with outcome := returned s.cntOk }
    ∧ exec .rdCntCrcErr s = .next { s with outcome := returned s.cntCrcErr }
    ∧ exec .rdCntQDrop s = .next { s with outcome := returned s.cntQDrop }
    ∧ exec .rdCntLenClamp s = .next { s with outcome := returned s.cntLenClamp }
    ∧ exec .rdCntTimeout s = .next { s with outcome := returned s.cntTimeout }

/-- R116, R122: CTRL reads 0; TIMEOUT reads TIMEOUT. -/
def Obligations.CtrlAndTimeoutReads : Prop :=
  (decode 0x300400000000 = .ok .rdCtrl ∧ decode 0x302400000000 = .ok .rdTimeout) ∧
  ∀ s : State, exec .rdCtrl s = .next { s with outcome := returned 0 }
    ∧ exec .rdTimeout s = .next { s with outcome := returned s.timeout }

/-- R123: a TIMEOUT write sets TIMEOUT, restarts IDLE_CNT and does nothing else. -/
def Obligations.TimeoutWrite : Prop :=
  ∀ (s : State) (v : Word32), decode (0x4024#16 ++ v) = .ok (.wrTimeout v)
    ∧ exec (.wrTimeout v) s = .next { s with timeout := v, idleCnt := 0, outcome := raised [] }

/-- R124, R43: the fields of PARAMS. -/
def Obligations.ParamsRead : Prop :=
  decode 0x302800000000 = .ok .rdParams ∧ ∀ s : State, s.build.Legal →
    ∃ v, exec .rdParams s = .next { s with outcome := returned v }
    ∧ (v.extractLsb' 0 8).toNat = s.build.maxPayload
    ∧ (∀ n, s.build.queueDepth = .bounded n → (v.extractLsb' 8 8).toNat = n)
    ∧ (s.build.queueDepth = .unbounded → v.extractLsb' 8 8 = 0)
    ∧ v.extractLsb' 16 4 = 4 ∧ v.extractLsb' 20 4 = 4
    ∧ (v.getLsbD 24 = true ↔ s.build.ckOrder = .be) ∧ v.extractLsb' 25 7 = 0

/-- R43, R52: no event changes a build parameter. -/
def Obligations.BuildNeverChanges : Prop := ∀ (i : Instr) (s t : State), exec i s = .next t → t.build = s.build

/-- R125, R126: an access to a reserved address, and a write to a read-only register, raise CSR_RESERVED with the address and
change nothing; the read returns 0. That the address recorded keeps bits [1:0] as they stood in the word is the model's (log 10,
DEDUCED). -/
def Obligations.ReservedAccesses : Prop :=
  ∀ (s : State) (a : CsrAddr) (v : Word32),
    (reservedAddr a = true → decode (0x3#4 ++ a ++ 0#32) = .ok (.rdReserved a))
      ∧ (writableAddr a = false → decode (0x4#4 ++ a ++ v) = .ok (.wrIgnored a v))
      ∧ exec (.rdReserved a) s = .next { s with outcome := { readData := some 0, conditions := [.csrReserved a] } }
      ∧ exec (.wrIgnored a v) s = .next { s with outcome := raised [.csrReserved a] }

/-- R56: a CSR read returns a value, changes no state, and returns the same value when it is made again. -/
def Obligations.ReadsHaveNoSideEffects : Prop :=
  ∀ (i : Instr) (s : State), eventClass i = .csrRead →
    ∃ t v, exec i s = .next t ∧ t.arch = s.arch ∧ t.input = s.input ∧ t.outcome.readData = some v ∧ exec i t = .next t

/-- R21, R136: no CSR event writes a parser register, except that CTRL.RESYNC sets (PSTATE, PCOUNT) to (PRE, 0). -/
def Obligations.HostCannotWriteTheParser : Prop :=
  ∀ (i : Instr) (s t : State), eventClass i = .csrRead ∨ eventClass i = .csrWrite → exec i s = .next t →
    t.rxDst = s.rxDst ∧ t.rxSrc = s.rxSrc ∧ t.rxLen = s.rxLen ∧ t.rxBuf = s.rxBuf ∧ t.rxCk = s.rxCk
      ∧ ((∃ v, i = .wrCtrl v ∧ v.getLsbD 2 = true) → t.pstate = .pre ∧ t.pcount = 0)
      ∧ ((∀ v, i = .wrCtrl v → v.getLsbD 2 = false) → t.pstate = s.pstate ∧ t.pcount = s.pcount)

/-! ## Conditions, counters, notification -/

/-- R131: the conditions each event can raise, and their order; the integrity check comes before the room check. -/
def Obligations.ConditionsOfEachEvent : Prop :=
  ∀ (i : Instr) (s t : State), s.Inv → exec i s = .next t →
    match i with
    | .rxByte b =>
      (t.outcome.conditions = [] ∧ (s.pstate = .cksum → s.pcount = 3 → t.rxCk = s.fcs))
        ∨ (s.pstate = .pre ∧ t.outcome.conditions = [.syncMiss b s.pcount])
        ∨ (s.pstate = .size ∧ t.outcome.conditions = [.lenClamped b])
        ∨ (s.pstate = .cksum ∧ s.pcount = 3 ∧ t.rxCk ≠ s.fcs ∧ t.outcome.conditions = [.ckMismatch t.rxCk s.fcs])
        ∨ (s.pstate = .cksum ∧ s.pcount = 3 ∧ t.rxCk = s.fcs ∧ t.outcome.conditions = [.queueFullDrop])
    | .rxError =>
      t.outcome.conditions = [.rxIoError] ∨ t.outcome.conditions = [.rxIoError, .timeoutResync s.pstate s.pcount]
    | .tick => t.outcome.conditions = [] ∨ t.outcome.conditions = [.timeoutResync s.pstate s.pcount]
    | .wrCtrl _ => t.outcome.conditions = [] ∨ t.outcome.conditions = [.popEmpty]
    | .rdReserved a => t.outcome.conditions = [.csrReserved a]
    | .wrIgnored a _ => t.outcome.conditions = [.csrReserved a]
    | _ => t.outcome.conditions = []

/-- R31, R127: a byte-port event moves each of the four error counters by the number of its conditions it raises, and CNT_OK
by the number of messages it queues, modulo 2^32. -/
def Obligations.CountersCountTheirConditions : Prop :=
  ∀ (i : Instr) (s t : State), eventClass i = .bytePort → exec i s = .next t →
    let raisedNow (code : Nat) : Word32 := BitVec.ofNat 32 (t.outcome.conditions.countP fun c => c.code == code)
    t.cntLenClamp = s.cntLenClamp + raisedNow 2 ∧ t.cntCrcErr = s.cntCrcErr + raisedNow 3
      ∧ t.cntQDrop = s.cntQDrop + raisedNow 4 ∧ t.cntTimeout = s.cntTimeout + raisedNow 7
      ∧ t.cntOk = s.cntOk + BitVec.ofNat 32 (t.q.length - s.q.length)

/-- R129: msg_avail is 1 exactly while Q is not empty, and equals the AVAIL that the next STATUS read returns. -/
def Obligations.MsgAvailIsTheAvailLevel : Prop :=
  ∀ (i : Instr) (s t : State), exec i s = .next t →
    (t.observation.msgAvail = true ↔ t.q ≠ [])
      ∧ ∃ u v, exec .rdStatus t = .next u ∧ u.outcome.readData = some v ∧ v.getLsbD 0 = t.observation.msgAvail

/-! ## Reset and invariants -/

/-- R145: RESET sets every element of the state to its reset value; the build constants stay (R43). -/
def Obligations.ResetEvent : Prop :=
  decode 0x500000000000 = .ok .reset ∧ ∀ s : State, exec .reset s = .next
    { pstate := .pre, pcount := 0, rxDst := 0, rxSrc := 0, rxLen := 0
      rxBuf := List.replicate s.build.maxPayload 0, rxCk := 0
      pre := { p0 := 0xAA, p1 := 0xBB, p2 := 0xCC, p3 := 0xDD }, q := []
      cntOk := 0, cntCrcErr := 0, cntQDrop := 0, cntLenClamp := 0, cntTimeout := 0
      timeout := 0, idleCnt := 0, build := s.build, input := s.input, outcome := raised [] }

/-- The reset values of R147, read at the machine's own reset state. RX_BUF's length and PARAMS rest on the default build,
which is the model's choice (log 1). -/
def Obligations.ResetStateValues : Prop :=
  let s := State.reset
  s.pstate = .pre ∧ s.pcount = 0 ∧ s.rxDst = 0 ∧ s.rxSrc = 0 ∧ s.rxLen = 0 ∧ s.rxCk = 0
    ∧ s.rxBuf = List.replicate 32 0 ∧ s.q = [] ∧ s.pre.bytes = [0xAA, 0xBB, 0xCC, 0xDD]
    ∧ s.cntOk = 0 ∧ s.cntCrcErr = 0 ∧ s.cntQDrop = 0 ∧ s.cntLenClamp = 0 ∧ s.cntTimeout = 0
    ∧ s.timeout = 0 ∧ s.idleCnt = 0 ∧ s.msgAvail = false ∧ s.statusWord = 0 ∧ s.headInfoWord = 0
    ∧ s.pre.word = 0xDDCCBBAA ∧ paramsWord s.build = 0x00440820

/-- The reset state of every legal build satisfies the invariants of R35, and so does the machine's own. -/
def Obligations.ResetSatisfiesTheInvariants : Prop := (∀ b : Build, b.Legal → (State.initial b).Inv) ∧ State.reset.Inv

/-- Every step keeps the invariants of R35, from every state that has them. -/
def Obligations.StepKeepsTheInvariants : Prop := ∀ s t : State, s.Inv → step s = .next t → t.Inv

/-- R35: the invariants hold in every state reachable from reset, on every trace and for every legal build. -/
def Obligations.ReachableStatesSatisfyTheInvariants : Prop :=
  ∀ (b : Build) (ws : List TraceWord) (n : Nat) (t : State) (obs : List Observation), b.Legal →
    runSteps n ((State.initial b).withTrace ws) = .next (t, obs) → t.Inv

/-- R27, R36: the stale contents of the frame registers show nowhere: states that differ in them only take steps with the same
observation to states that differ in them only. -/
def Obligations.StaleRegistersAreUnobservable : Prop :=
  ∀ s t s' : State, s.Inv → t.Inv → SameLive s t → step s = .next s' →
    ∃ t', step t = .next t' ∧ SameLive s' t' ∧ s'.observation = t'.observation

/-- R8, R9, R128: a block is built exactly with parameters within their ranges, and then starts in its reset state. -/
def Obligations.ConstructionRefusesIllegalParameters : Prop :=
  ∀ b : Build,
    let illegal := b.maxPayload = 0 ∨ 255 < b.maxPayload ∨ b.queueDepth = .bounded 0 ∨ ∃ n, b.queueDepth = .bounded n ∧ 255 < n
    (illegal → construct b = .refused .illegalBuild) ∧ (¬illegal → construct b = .next (State.initial b))

/-! ## Cycles and instances -/

/-- R60, R132: with reset, RESET is the only effect of the cycle, and a CSR read in it returns 0. Without it, a CSR read returns
its value from the state at the start of the cycle, a CSR write takes effect, and then the byte-port event, which sees the state
the write left; conditions are recorded in that order. -/
def Obligations.CycleAppliesItsEventsInOrder : Prop :=
  ∀ (c : ClockCycle) (s : State),
    (c.rst = true → ∃ t, exec .reset s = .next t
      ∧ runCycle c s = .next
          { state := t, readData := (match c.csr with | some (.read _) => some 0 | _ => none), conditions := [] })
    ∧ (c.rst = false →
      match c.csr with
      | none => ∃ t, exec c.port.instr s = .next t
          ∧ runCycle c s = .next { state := t, readData := none, conditions := t.outcome.conditions }
      | some (.read a) => ∃ u v t, exec (readRow a) s = .next u ∧ u.outcome.readData = some v ∧ u.arch = s.arch
          ∧ exec c.port.instr s = .next t
          ∧ runCycle c s = .next
              { state := t, readData := some v, conditions := u.outcome.conditions ++ t.outcome.conditions }
      | some (.write a v) => ∃ u t, exec (writeRow a v) s = .next u ∧ exec c.port.instr u = .next t
          ∧ runCycle c s = .next
              { state := t, readData := none, conditions := u.outcome.conditions ++ t.outcome.conditions })

/-- R60, R92, R103: a POP in the cycle that completes a valid frame frees a slot of a full queue before the push. -/
def Obligations.PopFreesASlotForTheSameCycle : Prop :=
  ∀ (s t : State) (b : Byte) (m : Message) (rest : List Message), s.pstate = .cksum → s.pcount = 3 → s.q = m :: rest →
    s.build.queueDepth = .bounded s.q.length → exec (.rxByte b) s = .next t → t.outcome.conditions = [.queueFullDrop] →
    ∃ u, runCycle { rst := false, csr := some (.write 0x004 1), port := .byte b } s = .next u
      ∧ u.conditions = [] ∧ u.state.cntQDrop = s.cntQDrop ∧ u.state.cntOk = s.cntOk + 1
      ∧ u.state.q = rest ++ [{ src := s.rxSrc, size := s.rxLen, payload := s.rxBuf.take s.rxLen.toNat }]

/-- R18, R141: an event applies to the state of exactly one instance, whose next state is the step's, and changes no other. That
a system is a list whose caller names the instance that steps is the model's choice (log 15). -/
def Obligations.InstancesShareNoState : Prop :=
  ∀ (sys : List Block) (n : Fin sys.length),
    (∀ t, step sys[n].state = .next t → ∃ sys', stepInstance sys n = .next sys' ∧ sys'.length = sys.length
        ∧ sys'[n.val]? = some { csrBase := sys[n].csrBase, state := t } ∧ ∀ k, k ≠ n.val → sys'[k]? = sys[k]?)
      ∧ ∀ sys', stepInstance sys n = .next sys' → ∃ t, step sys[n].state = .next t

/-- R58, R141: each instance has its own CSR window. Where the platform keeps the windows apart, an access at the address of a
register of one instance becomes the next event of that instance alone, a read or a write of that register. That it arrives as
the front word of the pending trace (log 4), and that each instance decodes its own window (log 15), is the model's choice. -/
def Obligations.AccessReachesTheInstanceOfItsWindow : Prop :=
  ∀ (sys : List Block) (n : Fin sys.length) (a : CsrAddr) (v : Word32), windowsDisjoint sys →
    let addr := sys[n].csrBase + a.toNat
    let reached (w : TraceWord) : Block :=
      { csrBase := sys[n].csrBase, state := { sys[n].state with input := w :: sys[n].state.input } }
    (deliverAccess sys (.read addr))[n.val]? = some (reached (0x3#4 ++ a ++ 0#32))
      ∧ (deliverAccess sys (.write addr v))[n.val]? = some (reached (0x4#4 ++ a ++ v))
      ∧ ∀ k, k ≠ n.val → (deliverAccess sys (.read addr))[k]? = sys[k]? ∧ (deliverAccess sys (.write addr v))[k]? = sys[k]?
end

