-- ==== Sys2Proof/Laws/Checksum.lean ====
section
/-! SUPPORT. Laws/Checksum.lean: the small lemmas of the checksum's fold (00_scope.md R10). -/

namespace Sys2Proof.Machine

@[simp] theorem foldChecksum_nil (update : Word32 → Byte → Word32) (c : Word32) : foldChecksum update c [] = c := rfl

@[simp] theorem foldChecksum_cons (update : Word32 → Byte → Word32) (c : Word32) (b : Byte) (l : List Byte) :
    foldChecksum update c (b :: l) = foldChecksum update (update c b) l := rfl

theorem checksumConcat_eq_fold (alg : ChecksumAlg) (c : Word32) (l : List Byte) :
    checksumConcat alg c l = foldChecksum (checksumUpdate alg) c l := rfl

theorem checksumOf_eq_concat (alg : ChecksumAlg) (l : List Byte) :
    checksumOf alg l = checksumConcat alg (checksumInit alg) l := rfl

end Sys2Proof.Machine
end

