-- ==== Sys2Proof/Laws/Decode.lean ====
section
/-! SUPPORT. Laws/Decode.lean: the small lemmas of the trace word's fields (30_encoding.md R73) and of the CSR map (42_csr.md
R109). -/

namespace Sys2Proof

@[simp] theorem kindField_mkWord (k : BitVec 4) (a : CsrAddr) (d : Word32) : kindField (mkWord k a d) = k := by
  apply BitVec.eq_of_getLsbD_eq
  intro i hi
  simp only [kindField, mkWord, BitVec.getLsbD_extractLsb', BitVec.getLsbD_append]
  have h1 : ¬ 44 + i < 32 := by omega
  have h2 : ¬ 44 + i - 32 < 12 := by omega
  have h3 : 44 + i - 32 - 12 = i := by omega
  simp [h1, h2, h3, hi]

@[simp] theorem addrField_mkWord (k : BitVec 4) (a : CsrAddr) (d : Word32) : addrField (mkWord k a d) = a := by
  apply BitVec.eq_of_getLsbD_eq
  intro i hi
  simp only [addrField, mkWord, BitVec.getLsbD_extractLsb', BitVec.getLsbD_append]
  have h1 : ¬ 32 + i < 32 := by omega
  have h2 : 32 + i - 32 < 12 := by omega
  have h3 : 32 + i - 32 = i := by omega
  simp [h1, h3, hi]

@[simp] theorem dataField_mkWord (k : BitVec 4) (a : CsrAddr) (d : Word32) : dataField (mkWord k a d) = d := by
  apply BitVec.eq_of_getLsbD_eq
  intro i hi
  simp only [dataField, mkWord, BitVec.getLsbD_extractLsb', BitVec.getLsbD_append]
  simp [hi]

/-- A trace word is its three fields. -/
theorem mkWord_fields (w : TraceWord) : mkWord (kindField w) (addrField w) (dataField w) = w := by
  apply BitVec.eq_of_getLsbD_eq
  intro i hi
  simp only [kindField, addrField, dataField, mkWord, BitVec.getLsbD_extractLsb', BitVec.getLsbD_append]
  by_cases h1 : i < 32
  · simp [h1]
  · by_cases h2 : i - 32 < 12
    · have h3 : 32 + (i - 32) = i := by omega
      simp [h1, h2, h3]
    · have h3 : 44 + (i - 32 - 12) = i := by omega
      have h4 : i - 32 - 12 < 4 := by omega
      simp [h1, h2, h3, h4]

/-- The low byte of the DATA of an RX_BYTE word. -/
@[simp] theorem extract_byte_low (b : Byte) : (0#24 ++ b : Word32).extractLsb' 0 8 = b := by
  apply BitVec.eq_of_getLsbD_eq
  intro i hi
  simp only [BitVec.getLsbD_extractLsb', BitVec.getLsbD_append]
  simp [hi]

/-- The high bits of the DATA of an RX_BYTE word. -/
@[simp] theorem extract_byte_high (b : Byte) : (0#24 ++ b : Word32).extractLsb' 8 24 = 0 := by
  apply BitVec.eq_of_getLsbD_eq
  intro i hi
  simp only [BitVec.getLsbD_extractLsb', BitVec.getLsbD_append]
  have h : ¬ 8 + i < 8 := by omega
  simp [h]

/-- DATA of an RX_BYTE word, written with a zero extension (R75). -/
theorem zeroExtend_eq_append (b : Byte) : b.setWidth 32 = (0#24 ++ b : Word32) := by
  apply BitVec.eq_of_getLsbD_eq
  intro i hi
  simp only [BitVec.getLsbD_append, BitVec.getLsbD_setWidth]
  by_cases h : i < 8
  · simp [h, hi]
  · have : b.getLsbD i = false := BitVec.getLsbD_of_ge b i (by omega)
    simp [h, this]

/-- The reserved addresses of R46 are those that the CSR map sends nowhere else. -/
theorem csrReg_reserved_iff (a : CsrAddr) : csrReg a = .reserved ↔ reservedAddr a = true := by
  revert a
  decide +kernel

/-- HEAD_DATA[k] sits at 0x100 + 4k (R45). -/
@[simp] theorem csrReg_headDataAddr (k : BitVec 6) : csrReg (headDataAddr k) = .headData k := by
  revert k
  decide +kernel

end Sys2Proof
end

