-- ==== Sys2Proof/Laws/Operands.lean ====
section
/-! SUPPORT. Laws/Operands.lean: the small lemmas of the operand forms: byte lanes (20_memory.md R51), the packed PREAMBLE word
(10_state.md R38), the clamped length (40_receive.md R88). -/

namespace Sys2Proof.Machine

theorem getLsbD_getLane (w : Word32) (lane i : Nat) (hi : i < 8) : (getLane w lane).getLsbD i = w.getLsbD (8 * lane + i) := by
  simp only [getLane, BitVec.getLsbD_extractLsb']
  simp [hi]

/-- Two words with the same four lanes are one word. -/
theorem eq_of_lanes {v w : Word32} (h : ∀ j, j < 4 → getLane v j = getLane w j) : v = w := by
  apply BitVec.eq_of_getLsbD_eq
  intro i hi
  have hj := congrArg (fun b : Byte => b.getLsbD (i % 8)) (h (i / 8) (by omega))
  simp only [getLsbD_getLane _ _ _ (show i % 8 < 8 by omega)] at hj
  rwa [show 8 * (i / 8) + i % 8 = i by omega] at hj

/-- The byte lane mask, bit by bit. -/
theorem getLsbD_laneMask (lane i : Nat) (hi : i < 32) :
    (0xFF#32 <<< (8 * lane)).getLsbD i = decide (8 * lane ≤ i ∧ i < 8 * lane + 8) := by
  rw [BitVec.getLsbD_shiftLeft]
  have h255 : ∀ k, (0xFF#32).getLsbD k = decide (k < 8) := by
    intro k
    by_cases hk : k < 32
    · revert k
      decide
    · rw [BitVec.getLsbD_of_ge _ _ (by omega)]
      simp
      omega
  rw [h255]
  by_cases h1 : i < 8 * lane
  · simp [h1, hi]
  · simp only [hi, h1, decide_true, decide_false, Bool.not_false, Bool.true_and]
    exact decide_eq_decide.2 (by omega)

/-- Writing a lane and reading a lane (R91). -/
theorem getLane_putLane (w : Word32) (lane j : Nat) (b : Byte) (hj : j < 4) :
    getLane (putLane w lane b) j = if j = lane then b else getLane w j := by
  apply BitVec.eq_of_getLsbD_eq
  intro i hi
  have h32 : 8 * j + i < 32 := by omega
  rw [getLsbD_getLane _ _ _ hi]
  simp only [putLane, BitVec.getLsbD_or, BitVec.getLsbD_and, BitVec.getLsbD_not, getLsbD_laneMask _ _ h32,
    BitVec.getLsbD_shiftLeft, BitVec.getLsbD_setWidth, h32, decide_true, Bool.true_and]
  split
  · next h =>
    subst h
    have e : 8 * j + i - 8 * j = i := by omega
    simp [e, hi]
    intro _
    omega
  · next h =>
    rw [getLsbD_getLane _ _ _ hi]
    by_cases hl : j < lane
    · have h1 : 8 * j + i < 8 * lane := by omega
      have h2 : ¬ 8 * lane ≤ 8 * j + i := by omega
      simp [h1, h2]
    · have h1 : ¬ 8 * j + i < 8 * lane := by omega
      have h2 : ¬ 8 * j + i < 8 * lane + 8 := by omega
      have h3 : b.getLsbD (8 * j + i - 8 * lane) = false := BitVec.getLsbD_of_ge _ _ (by omega)
      simp [h2, h3]

/-- Four bytes packed by shifts are the bytes put side by side (R51). -/
theorem packBytes_eq_append (b3 b2 b1 b0 : Byte) :
    (b3.setWidth 32 <<< 24) ||| (b2.setWidth 32 <<< 16) ||| (b1.setWidth 32 <<< 8) ||| b0.setWidth 32
      = (b3 ++ b2 ++ b1 ++ b0 : Word32) := by
  apply BitVec.eq_of_getLsbD_eq
  intro i hi
  simp only [BitVec.getLsbD_or, BitVec.getLsbD_shiftLeft, BitVec.getLsbD_setWidth, BitVec.getLsbD_append]
  have z : ∀ (b : Byte) k, 8 ≤ k → b.getLsbD k = false := fun b k hk => BitVec.getLsbD_of_ge b k hk
  by_cases h0 : i < 8
  · have h1 : i < 16 := by omega
    have h2 : i < 24 := by omega
    simp [h0, h1, h2, hi]
  · by_cases h1 : i - 8 < 8
    · have h2 : i < 16 := by omega
      have h3 : i < 24 := by omega
      simp [h0, h1, h2, h3, hi, z b0 i (by omega), show i - 8 < 32 by omega]
    · by_cases h2 : i - 8 - 8 < 8
      · have h3 : ¬ i < 16 := by omega
        have h4 : i < 24 := by omega
        simp [h0, h1, h3, h4, hi, z b0 i (by omega), z b1 (i - 8) (by omega), show i - 16 < 32 by omega,
          show i - 8 - 8 = i - 16 by omega, show i - 16 < 8 by omega]
      · have h3 : ¬ i < 16 := by omega
        have h4 : ¬ i < 24 := by omega
        simp [h0, h1, h2, h3, h4, hi, z b0 i (by omega), z b1 (i - 8) (by omega), z b2 (i - 16) (by omega),
          show i - 24 < 32 by omega, show i - 8 - 8 - 8 = i - 24 by omega]

/-- The lanes of four bytes put side by side. -/
theorem getLane_append (b3 b2 b1 b0 : Byte) (j : Nat) (hj : j < 4) :
    getLane (b3 ++ b2 ++ b1 ++ b0 : Word32) j = if j = 0 then b0 else if j = 1 then b1 else if j = 2 then b2 else b3 := by
  apply BitVec.eq_of_getLsbD_eq
  intro i hi
  rw [getLsbD_getLane _ _ _ hi]
  simp only [BitVec.getLsbD_append]
  obtain rfl | rfl | rfl | rfl : j = 0 ∨ j = 1 ∨ j = 2 ∨ j = 3 := by omega
  · simp [hi]
  · simp [show ¬ 8 * 1 + i < 8 by omega, show 8 * 1 + i - 8 = i by omega, hi]
  · simp [show ¬ 8 * 2 + i < 8 by omega, show ¬ 8 * 2 + i - 8 < 8 by omega, show 8 * 2 + i - 8 - 8 = i by omega, hi]
  · simp [show ¬ 8 * 3 + i < 8 by omega, show ¬ 8 * 3 + i - 8 < 8 by omega, show ¬ 8 * 3 + i - 8 - 8 < 8 by omega,
      show 8 * 3 + i - 8 - 8 - 8 = i by omega]

/-- A word is its four lanes side by side. -/
theorem append_lanes (v : Word32) : (getLane v 3 ++ getLane v 2 ++ getLane v 1 ++ getLane v 0 : Word32) = v := by
  apply eq_of_lanes
  intro j hj
  rw [getLane_append _ _ _ _ _ hj]
  obtain rfl | rfl | rfl | rfl : j = 0 ∨ j = 1 ∨ j = 2 ∨ j = 3 := by omega
  all_goals simp

/-- The lanes of HEAD_DATA[k] (R45, R106). -/
theorem getLane_headDataWord (s : State) (k j : Nat) (hj : j < 4) :
    getLane (s.headDataWord k) j = s.headByte (4 * k + j) := by
  rw [State.headDataWord, packBytes_eq_append, getLane_append _ _ _ _ _ hj]
  obtain rfl | rfl | rfl | rfl : j = 0 ∨ j = 1 ∨ j = 2 ∨ j = 3 := by omega
  all_goals simp

/-- HEAD_INFO of an empty queue (R41). -/
theorem headInfoWord_of_nil {s : State} (h : s.q = []) : s.headInfoWord = 0 := by simp only [State.headInfoWord, h]

/-- HEAD_INFO of a queue with a head (R41). -/
theorem headInfoWord_of_cons {s : State} {m : Message} {rest : List Message} (h : s.q = m :: rest) :
    s.headInfoWord = (0#8 ++ 0#8 ++ m.size ++ m.src : Word32) := by
  rw [← packBytes_eq_append, State.headInfoWord, h]
  simp

/-- A payload byte of an empty queue reads 0 (R45, R106). -/
theorem headByte_of_nil {s : State} (i : Nat) (h : s.q = []) : s.headByte i = 0 := by simp only [State.headByte, h]

/-- A payload byte of the head, which has `size` of them (R28, R45, R106). -/
theorem headByte_of_cons {s : State} {m : Message} {rest : List Message} (i : Nat) (h : s.q = m :: rest)
    (hm : m.payload.length = m.size.toNat) : s.headByte i = m.payload.getD i 0 := by
  simp only [State.headByte, h, List.getD_eq_getElem?_getD]
  split
  · next hi => rw [List.getElem?_eq_getElem (by omega), Option.getD_some, Option.getD_some]
  · next hi => rw [List.getElem?_eq_none (by omega), Option.getD_none]

/-- The clamped length is the minimum (R75, R88). -/
theorem clampLen_toNat (m : Nat) (b : Byte) : (clampLen m b).toNat = min b.toNat m := by
  unfold clampLen
  have := b.isLt
  split
  · rw [BitVec.toNat_ofNat, Nat.mod_eq_of_lt (by omega)]
    omega
  · omega

/-- P[i] for i in 0..3 (R30). -/
theorem Preamble.get_eq (p : Preamble) (i : Byte) (h : i.toNat ≤ 3) : p.bytes[i.toNat]? = some (p.get i) := by
  unfold Preamble.get Preamble.bytes
  obtain h | h | h | h : i.toNat = 0 ∨ i.toNat = 1 ∨ i.toNat = 2 ∨ i.toNat = 3 := by omega
  all_goals simp [h]

/-- The two orders put each checksum byte into a lane of its own (R91). -/
theorem ckLane_inj (order : CkOrder) {i j : Nat} (hi : i < 4) (hj : j < 4) : ckLane order i = ckLane order j ↔ i = j := by
  cases order with
  | le => rfl
  | be =>
    simp only [ckLane]
    omega

theorem ckLane_lt (order : CkOrder) {i : Nat} (hi : i < 4) : ckLane order i < 4 := by
  cases order with
  | le => exact hi
  | be =>
    simp only [ckLane]
    omega

/-- Writing checksum byte `i` and reading the lane of checksum byte `j` (R91). -/
theorem getLane_putCkByte (order : CkOrder) (i b : Byte) (w : Word32) (j : Nat) (hi : i.toNat < 4) (hj : j < 4) :
    getLane (putCkByte order i b w) (ckLane order j) = if j = i.toNat then b else getLane w (ckLane order j) := by
  rw [putCkByte, if_pos hi, getLane_putLane _ _ _ _ (ckLane_lt order hj)]
  simp only [ckLane_inj order hj hi]

end Sys2Proof.Machine
end

