-- ==== Sys2Proof/Laws/State.lean ====
section
/-! SUPPORT. Laws/State.lean: one lemma per field for each named update of the state, true by rfl, so that no later proof
unfolds an update. -/

namespace Sys2Proof.Machine

variable (s : State)

/-! ## State.beginEvent -/

@[simp] theorem State.beginEvent_pstate : s.beginEvent.pstate = s.pstate := rfl
@[simp] theorem State.beginEvent_pcount : s.beginEvent.pcount = s.pcount := rfl
@[simp] theorem State.beginEvent_rxDst : s.beginEvent.rxDst = s.rxDst := rfl
@[simp] theorem State.beginEvent_rxSrc : s.beginEvent.rxSrc = s.rxSrc := rfl
@[simp] theorem State.beginEvent_rxLen : s.beginEvent.rxLen = s.rxLen := rfl
@[simp] theorem State.beginEvent_rxBuf : s.beginEvent.rxBuf = s.rxBuf := rfl
@[simp] theorem State.beginEvent_rxCk : s.beginEvent.rxCk = s.rxCk := rfl
@[simp] theorem State.beginEvent_pre : s.beginEvent.pre = s.pre := rfl
@[simp] theorem State.beginEvent_q : s.beginEvent.q = s.q := rfl
@[simp] theorem State.beginEvent_cntOk : s.beginEvent.cntOk = s.cntOk := rfl
@[simp] theorem State.beginEvent_cntCrcErr : s.beginEvent.cntCrcErr = s.cntCrcErr := rfl
@[simp] theorem State.beginEvent_cntQDrop : s.beginEvent.cntQDrop = s.cntQDrop := rfl
@[simp] theorem State.beginEvent_cntLenClamp : s.beginEvent.cntLenClamp = s.cntLenClamp := rfl
@[simp] theorem State.beginEvent_cntTimeout : s.beginEvent.cntTimeout = s.cntTimeout := rfl
@[simp] theorem State.beginEvent_timeout : s.beginEvent.timeout = s.timeout := rfl
@[simp] theorem State.beginEvent_idleCnt : s.beginEvent.idleCnt = s.idleCnt := rfl
@[simp] theorem State.beginEvent_build : s.beginEvent.build = s.build := rfl
@[simp] theorem State.beginEvent_input : s.beginEvent.input = s.input := rfl
@[simp] theorem State.beginEvent_outcome : s.beginEvent.outcome = { readData := none, conditions := [] } := rfl

/-! ## State.raise -/

@[simp] theorem State.raise_pstate (c : Condition) : (s.raise c).pstate = s.pstate := rfl
@[simp] theorem State.raise_pcount (c : Condition) : (s.raise c).pcount = s.pcount := rfl
@[simp] theorem State.raise_rxDst (c : Condition) : (s.raise c).rxDst = s.rxDst := rfl
@[simp] theorem State.raise_rxSrc (c : Condition) : (s.raise c).rxSrc = s.rxSrc := rfl
@[simp] theorem State.raise_rxLen (c : Condition) : (s.raise c).rxLen = s.rxLen := rfl
@[simp] theorem State.raise_rxBuf (c : Condition) : (s.raise c).rxBuf = s.rxBuf := rfl
@[simp] theorem State.raise_rxCk (c : Condition) : (s.raise c).rxCk = s.rxCk := rfl
@[simp] theorem State.raise_pre (c : Condition) : (s.raise c).pre = s.pre := rfl
@[simp] theorem State.raise_q (c : Condition) : (s.raise c).q = s.q := rfl
@[simp] theorem State.raise_cntOk (c : Condition) : (s.raise c).cntOk = s.cntOk := rfl
@[simp] theorem State.raise_cntCrcErr (c : Condition) : (s.raise c).cntCrcErr = s.cntCrcErr := rfl
@[simp] theorem State.raise_cntQDrop (c : Condition) : (s.raise c).cntQDrop = s.cntQDrop := rfl
@[simp] theorem State.raise_cntLenClamp (c : Condition) : (s.raise c).cntLenClamp = s.cntLenClamp := rfl
@[simp] theorem State.raise_cntTimeout (c : Condition) : (s.raise c).cntTimeout = s.cntTimeout := rfl
@[simp] theorem State.raise_timeout (c : Condition) : (s.raise c).timeout = s.timeout := rfl
@[simp] theorem State.raise_idleCnt (c : Condition) : (s.raise c).idleCnt = s.idleCnt := rfl
@[simp] theorem State.raise_build (c : Condition) : (s.raise c).build = s.build := rfl
@[simp] theorem State.raise_input (c : Condition) : (s.raise c).input = s.input := rfl
@[simp] theorem State.raise_outcome (c : Condition) : (s.raise c).outcome = { s.outcome with conditions := s.outcome.conditions ++ [c] } := rfl

/-! ## State.answer -/

@[simp] theorem State.answer_pstate (v : Word32) : (s.answer v).pstate = s.pstate := rfl
@[simp] theorem State.answer_pcount (v : Word32) : (s.answer v).pcount = s.pcount := rfl
@[simp] theorem State.answer_rxDst (v : Word32) : (s.answer v).rxDst = s.rxDst := rfl
@[simp] theorem State.answer_rxSrc (v : Word32) : (s.answer v).rxSrc = s.rxSrc := rfl
@[simp] theorem State.answer_rxLen (v : Word32) : (s.answer v).rxLen = s.rxLen := rfl
@[simp] theorem State.answer_rxBuf (v : Word32) : (s.answer v).rxBuf = s.rxBuf := rfl
@[simp] theorem State.answer_rxCk (v : Word32) : (s.answer v).rxCk = s.rxCk := rfl
@[simp] theorem State.answer_pre (v : Word32) : (s.answer v).pre = s.pre := rfl
@[simp] theorem State.answer_q (v : Word32) : (s.answer v).q = s.q := rfl
@[simp] theorem State.answer_cntOk (v : Word32) : (s.answer v).cntOk = s.cntOk := rfl
@[simp] theorem State.answer_cntCrcErr (v : Word32) : (s.answer v).cntCrcErr = s.cntCrcErr := rfl
@[simp] theorem State.answer_cntQDrop (v : Word32) : (s.answer v).cntQDrop = s.cntQDrop := rfl
@[simp] theorem State.answer_cntLenClamp (v : Word32) : (s.answer v).cntLenClamp = s.cntLenClamp := rfl
@[simp] theorem State.answer_cntTimeout (v : Word32) : (s.answer v).cntTimeout = s.cntTimeout := rfl
@[simp] theorem State.answer_timeout (v : Word32) : (s.answer v).timeout = s.timeout := rfl
@[simp] theorem State.answer_idleCnt (v : Word32) : (s.answer v).idleCnt = s.idleCnt := rfl
@[simp] theorem State.answer_build (v : Word32) : (s.answer v).build = s.build := rfl
@[simp] theorem State.answer_input (v : Word32) : (s.answer v).input = s.input := rfl
@[simp] theorem State.answer_outcome (v : Word32) : (s.answer v).outcome = { s.outcome with readData := some v } := rfl

/-! ## State.toPre -/

@[simp] theorem State.toPre_pstate : s.toPre.pstate = .pre := rfl
@[simp] theorem State.toPre_pcount : s.toPre.pcount = 0 := rfl
@[simp] theorem State.toPre_rxDst : s.toPre.rxDst = s.rxDst := rfl
@[simp] theorem State.toPre_rxSrc : s.toPre.rxSrc = s.rxSrc := rfl
@[simp] theorem State.toPre_rxLen : s.toPre.rxLen = s.rxLen := rfl
@[simp] theorem State.toPre_rxBuf : s.toPre.rxBuf = s.rxBuf := rfl
@[simp] theorem State.toPre_rxCk : s.toPre.rxCk = s.rxCk := rfl
@[simp] theorem State.toPre_pre : s.toPre.pre = s.pre := rfl
@[simp] theorem State.toPre_q : s.toPre.q = s.q := rfl
@[simp] theorem State.toPre_cntOk : s.toPre.cntOk = s.cntOk := rfl
@[simp] theorem State.toPre_cntCrcErr : s.toPre.cntCrcErr = s.cntCrcErr := rfl
@[simp] theorem State.toPre_cntQDrop : s.toPre.cntQDrop = s.cntQDrop := rfl
@[simp] theorem State.toPre_cntLenClamp : s.toPre.cntLenClamp = s.cntLenClamp := rfl
@[simp] theorem State.toPre_cntTimeout : s.toPre.cntTimeout = s.cntTimeout := rfl
@[simp] theorem State.toPre_timeout : s.toPre.timeout = s.timeout := rfl
@[simp] theorem State.toPre_idleCnt : s.toPre.idleCnt = s.idleCnt := rfl
@[simp] theorem State.toPre_build : s.toPre.build = s.build := rfl
@[simp] theorem State.toPre_input : s.toPre.input = s.input := rfl
@[simp] theorem State.toPre_outcome : s.toPre.outcome = s.outcome := rfl

/-! ## State.restartIdle -/

@[simp] theorem State.restartIdle_pstate : s.restartIdle.pstate = s.pstate := rfl
@[simp] theorem State.restartIdle_pcount : s.restartIdle.pcount = s.pcount := rfl
@[simp] theorem State.restartIdle_rxDst : s.restartIdle.rxDst = s.rxDst := rfl
@[simp] theorem State.restartIdle_rxSrc : s.restartIdle.rxSrc = s.rxSrc := rfl
@[simp] theorem State.restartIdle_rxLen : s.restartIdle.rxLen = s.rxLen := rfl
@[simp] theorem State.restartIdle_rxBuf : s.restartIdle.rxBuf = s.rxBuf := rfl
@[simp] theorem State.restartIdle_rxCk : s.restartIdle.rxCk = s.rxCk := rfl
@[simp] theorem State.restartIdle_pre : s.restartIdle.pre = s.pre := rfl
@[simp] theorem State.restartIdle_q : s.restartIdle.q = s.q := rfl
@[simp] theorem State.restartIdle_cntOk : s.restartIdle.cntOk = s.cntOk := rfl
@[simp] theorem State.restartIdle_cntCrcErr : s.restartIdle.cntCrcErr = s.cntCrcErr := rfl
@[simp] theorem State.restartIdle_cntQDrop : s.restartIdle.cntQDrop = s.cntQDrop := rfl
@[simp] theorem State.restartIdle_cntLenClamp : s.restartIdle.cntLenClamp = s.cntLenClamp := rfl
@[simp] theorem State.restartIdle_cntTimeout : s.restartIdle.cntTimeout = s.cntTimeout := rfl
@[simp] theorem State.restartIdle_timeout : s.restartIdle.timeout = s.timeout := rfl
@[simp] theorem State.restartIdle_idleCnt : s.restartIdle.idleCnt = 0 := rfl
@[simp] theorem State.restartIdle_build : s.restartIdle.build = s.build := rfl
@[simp] theorem State.restartIdle_input : s.restartIdle.input = s.input := rfl
@[simp] theorem State.restartIdle_outcome : s.restartIdle.outcome = s.outcome := rfl

/-! ## State.resync -/

@[simp] theorem State.resync_pstate : s.resync.pstate = .pre := rfl
@[simp] theorem State.resync_pcount : s.resync.pcount = 0 := rfl
@[simp] theorem State.resync_rxDst : s.resync.rxDst = s.rxDst := rfl
@[simp] theorem State.resync_rxSrc : s.resync.rxSrc = s.rxSrc := rfl
@[simp] theorem State.resync_rxLen : s.resync.rxLen = s.rxLen := rfl
@[simp] theorem State.resync_rxBuf : s.resync.rxBuf = s.rxBuf := rfl
@[simp] theorem State.resync_rxCk : s.resync.rxCk = s.rxCk := rfl
@[simp] theorem State.resync_pre : s.resync.pre = s.pre := rfl
@[simp] theorem State.resync_q : s.resync.q = s.q := rfl
@[simp] theorem State.resync_cntOk : s.resync.cntOk = s.cntOk := rfl
@[simp] theorem State.resync_cntCrcErr : s.resync.cntCrcErr = s.cntCrcErr := rfl
@[simp] theorem State.resync_cntQDrop : s.resync.cntQDrop = s.cntQDrop := rfl
@[simp] theorem State.resync_cntLenClamp : s.resync.cntLenClamp = s.cntLenClamp := rfl
@[simp] theorem State.resync_cntTimeout : s.resync.cntTimeout = s.cntTimeout := rfl
@[simp] theorem State.resync_timeout : s.resync.timeout = s.timeout := rfl
@[simp] theorem State.resync_idleCnt : s.resync.idleCnt = 0 := rfl
@[simp] theorem State.resync_build : s.resync.build = s.build := rfl
@[simp] theorem State.resync_input : s.resync.input = s.input := rfl
@[simp] theorem State.resync_outcome : s.resync.outcome = s.outcome := rfl

/-! ## State.fireTimeout -/

@[simp] theorem State.fireTimeout_pstate : s.fireTimeout.pstate = .pre := rfl
@[simp] theorem State.fireTimeout_pcount : s.fireTimeout.pcount = 0 := rfl
@[simp] theorem State.fireTimeout_rxDst : s.fireTimeout.rxDst = s.rxDst := rfl
@[simp] theorem State.fireTimeout_rxSrc : s.fireTimeout.rxSrc = s.rxSrc := rfl
@[simp] theorem State.fireTimeout_rxLen : s.fireTimeout.rxLen = s.rxLen := rfl
@[simp] theorem State.fireTimeout_rxBuf : s.fireTimeout.rxBuf = s.rxBuf := rfl
@[simp] theorem State.fireTimeout_rxCk : s.fireTimeout.rxCk = s.rxCk := rfl
@[simp] theorem State.fireTimeout_pre : s.fireTimeout.pre = s.pre := rfl
@[simp] theorem State.fireTimeout_q : s.fireTimeout.q = s.q := rfl
@[simp] theorem State.fireTimeout_cntOk : s.fireTimeout.cntOk = s.cntOk := rfl
@[simp] theorem State.fireTimeout_cntCrcErr : s.fireTimeout.cntCrcErr = s.cntCrcErr := rfl
@[simp] theorem State.fireTimeout_cntQDrop : s.fireTimeout.cntQDrop = s.cntQDrop := rfl
@[simp] theorem State.fireTimeout_cntLenClamp : s.fireTimeout.cntLenClamp = s.cntLenClamp := rfl
@[simp] theorem State.fireTimeout_cntTimeout : s.fireTimeout.cntTimeout = s.cntTimeout + 1 := rfl
@[simp] theorem State.fireTimeout_timeout : s.fireTimeout.timeout = s.timeout := rfl
@[simp] theorem State.fireTimeout_idleCnt : s.fireTimeout.idleCnt = 0 := rfl
@[simp] theorem State.fireTimeout_build : s.fireTimeout.build = s.build := rfl
@[simp] theorem State.fireTimeout_input : s.fireTimeout.input = s.input := rfl
@[simp] theorem State.fireTimeout_outcome : s.fireTimeout.outcome = { s.outcome with conditions := s.outcome.conditions ++ [.timeoutResync s.pstate s.pcount] } := rfl

/-! ## State.push -/

@[simp] theorem State.push_pstate (m : Message) : (s.push m).pstate = s.pstate := rfl
@[simp] theorem State.push_pcount (m : Message) : (s.push m).pcount = s.pcount := rfl
@[simp] theorem State.push_rxDst (m : Message) : (s.push m).rxDst = s.rxDst := rfl
@[simp] theorem State.push_rxSrc (m : Message) : (s.push m).rxSrc = s.rxSrc := rfl
@[simp] theorem State.push_rxLen (m : Message) : (s.push m).rxLen = s.rxLen := rfl
@[simp] theorem State.push_rxBuf (m : Message) : (s.push m).rxBuf = s.rxBuf := rfl
@[simp] theorem State.push_rxCk (m : Message) : (s.push m).rxCk = s.rxCk := rfl
@[simp] theorem State.push_pre (m : Message) : (s.push m).pre = s.pre := rfl
@[simp] theorem State.push_q (m : Message) : (s.push m).q = s.q ++ [m] := rfl
@[simp] theorem State.push_cntOk (m : Message) : (s.push m).cntOk = s.cntOk := rfl
@[simp] theorem State.push_cntCrcErr (m : Message) : (s.push m).cntCrcErr = s.cntCrcErr := rfl
@[simp] theorem State.push_cntQDrop (m : Message) : (s.push m).cntQDrop = s.cntQDrop := rfl
@[simp] theorem State.push_cntLenClamp (m : Message) : (s.push m).cntLenClamp = s.cntLenClamp := rfl
@[simp] theorem State.push_cntTimeout (m : Message) : (s.push m).cntTimeout = s.cntTimeout := rfl
@[simp] theorem State.push_timeout (m : Message) : (s.push m).timeout = s.timeout := rfl
@[simp] theorem State.push_idleCnt (m : Message) : (s.push m).idleCnt = s.idleCnt := rfl
@[simp] theorem State.push_build (m : Message) : (s.push m).build = s.build := rfl
@[simp] theorem State.push_input (m : Message) : (s.push m).input = s.input := rfl
@[simp] theorem State.push_outcome (m : Message) : (s.push m).outcome = s.outcome := rfl

/-! ## State.clear -/

@[simp] theorem State.clear_pstate : s.clear.pstate = s.pstate := rfl
@[simp] theorem State.clear_pcount : s.clear.pcount = s.pcount := rfl
@[simp] theorem State.clear_rxDst : s.clear.rxDst = s.rxDst := rfl
@[simp] theorem State.clear_rxSrc : s.clear.rxSrc = s.rxSrc := rfl
@[simp] theorem State.clear_rxLen : s.clear.rxLen = s.rxLen := rfl
@[simp] theorem State.clear_rxBuf : s.clear.rxBuf = s.rxBuf := rfl
@[simp] theorem State.clear_rxCk : s.clear.rxCk = s.rxCk := rfl
@[simp] theorem State.clear_pre : s.clear.pre = s.pre := rfl
@[simp] theorem State.clear_q : s.clear.q = [] := rfl
@[simp] theorem State.clear_cntOk : s.clear.cntOk = s.cntOk := rfl
@[simp] theorem State.clear_cntCrcErr : s.clear.cntCrcErr = s.cntCrcErr := rfl
@[simp] theorem State.clear_cntQDrop : s.clear.cntQDrop = s.cntQDrop := rfl
@[simp] theorem State.clear_cntLenClamp : s.clear.cntLenClamp = s.cntLenClamp := rfl
@[simp] theorem State.clear_cntTimeout : s.clear.cntTimeout = s.cntTimeout := rfl
@[simp] theorem State.clear_timeout : s.clear.timeout = s.timeout := rfl
@[simp] theorem State.clear_idleCnt : s.clear.idleCnt = s.idleCnt := rfl
@[simp] theorem State.clear_build : s.clear.build = s.build := rfl
@[simp] theorem State.clear_input : s.clear.input = s.input := rfl
@[simp] theorem State.clear_outcome : s.clear.outcome = s.outcome := rfl

/-! ## State.clearCounters -/

@[simp] theorem State.clearCounters_pstate : s.clearCounters.pstate = s.pstate := rfl
@[simp] theorem State.clearCounters_pcount : s.clearCounters.pcount = s.pcount := rfl
@[simp] theorem State.clearCounters_rxDst : s.clearCounters.rxDst = s.rxDst := rfl
@[simp] theorem State.clearCounters_rxSrc : s.clearCounters.rxSrc = s.rxSrc := rfl
@[simp] theorem State.clearCounters_rxLen : s.clearCounters.rxLen = s.rxLen := rfl
@[simp] theorem State.clearCounters_rxBuf : s.clearCounters.rxBuf = s.rxBuf := rfl
@[simp] theorem State.clearCounters_rxCk : s.clearCounters.rxCk = s.rxCk := rfl
@[simp] theorem State.clearCounters_pre : s.clearCounters.pre = s.pre := rfl
@[simp] theorem State.clearCounters_q : s.clearCounters.q = s.q := rfl
@[simp] theorem State.clearCounters_cntOk : s.clearCounters.cntOk = 0 := rfl
@[simp] theorem State.clearCounters_cntCrcErr : s.clearCounters.cntCrcErr = 0 := rfl
@[simp] theorem State.clearCounters_cntQDrop : s.clearCounters.cntQDrop = 0 := rfl
@[simp] theorem State.clearCounters_cntLenClamp : s.clearCounters.cntLenClamp = 0 := rfl
@[simp] theorem State.clearCounters_cntTimeout : s.clearCounters.cntTimeout = 0 := rfl
@[simp] theorem State.clearCounters_timeout : s.clearCounters.timeout = s.timeout := rfl
@[simp] theorem State.clearCounters_idleCnt : s.clearCounters.idleCnt = s.idleCnt := rfl
@[simp] theorem State.clearCounters_build : s.clearCounters.build = s.build := rfl
@[simp] theorem State.clearCounters_input : s.clearCounters.input = s.input := rfl
@[simp] theorem State.clearCounters_outcome : s.clearCounters.outcome = s.outcome := rfl

/-! ## State.acceptFrame -/

@[simp] theorem State.acceptFrame_pstate : s.acceptFrame.pstate = s.pstate := rfl
@[simp] theorem State.acceptFrame_pcount : s.acceptFrame.pcount = s.pcount := rfl
@[simp] theorem State.acceptFrame_rxDst : s.acceptFrame.rxDst = s.rxDst := rfl
@[simp] theorem State.acceptFrame_rxSrc : s.acceptFrame.rxSrc = s.rxSrc := rfl
@[simp] theorem State.acceptFrame_rxLen : s.acceptFrame.rxLen = s.rxLen := rfl
@[simp] theorem State.acceptFrame_rxBuf : s.acceptFrame.rxBuf = s.rxBuf := rfl
@[simp] theorem State.acceptFrame_rxCk : s.acceptFrame.rxCk = s.rxCk := rfl
@[simp] theorem State.acceptFrame_pre : s.acceptFrame.pre = s.pre := rfl
@[simp] theorem State.acceptFrame_q : s.acceptFrame.q = s.q ++ [s.rxMessage] := rfl
@[simp] theorem State.acceptFrame_cntOk : s.acceptFrame.cntOk = s.cntOk + 1 := rfl
@[simp] theorem State.acceptFrame_cntCrcErr : s.acceptFrame.cntCrcErr = s.cntCrcErr := rfl
@[simp] theorem State.acceptFrame_cntQDrop : s.acceptFrame.cntQDrop = s.cntQDrop := rfl
@[simp] theorem State.acceptFrame_cntLenClamp : s.acceptFrame.cntLenClamp = s.cntLenClamp := rfl
@[simp] theorem State.acceptFrame_cntTimeout : s.acceptFrame.cntTimeout = s.cntTimeout := rfl
@[simp] theorem State.acceptFrame_timeout : s.acceptFrame.timeout = s.timeout := rfl
@[simp] theorem State.acceptFrame_idleCnt : s.acceptFrame.idleCnt = s.idleCnt := rfl
@[simp] theorem State.acceptFrame_build : s.acceptFrame.build = s.build := rfl
@[simp] theorem State.acceptFrame_input : s.acceptFrame.input = s.input := rfl
@[simp] theorem State.acceptFrame_outcome : s.acceptFrame.outcome = s.outcome := rfl

/-! ## State.dropOnFull -/

@[simp] theorem State.dropOnFull_pstate : s.dropOnFull.pstate = s.pstate := rfl
@[simp] theorem State.dropOnFull_pcount : s.dropOnFull.pcount = s.pcount := rfl
@[simp] theorem State.dropOnFull_rxDst : s.dropOnFull.rxDst = s.rxDst := rfl
@[simp] theorem State.dropOnFull_rxSrc : s.dropOnFull.rxSrc = s.rxSrc := rfl
@[simp] theorem State.dropOnFull_rxLen : s.dropOnFull.rxLen = s.rxLen := rfl
@[simp] theorem State.dropOnFull_rxBuf : s.dropOnFull.rxBuf = s.rxBuf := rfl
@[simp] theorem State.dropOnFull_rxCk : s.dropOnFull.rxCk = s.rxCk := rfl
@[simp] theorem State.dropOnFull_pre : s.dropOnFull.pre = s.pre := rfl
@[simp] theorem State.dropOnFull_q : s.dropOnFull.q = s.q := rfl
@[simp] theorem State.dropOnFull_cntOk : s.dropOnFull.cntOk = s.cntOk := rfl
@[simp] theorem State.dropOnFull_cntCrcErr : s.dropOnFull.cntCrcErr = s.cntCrcErr := rfl
@[simp] theorem State.dropOnFull_cntQDrop : s.dropOnFull.cntQDrop = s.cntQDrop + 1 := rfl
@[simp] theorem State.dropOnFull_cntLenClamp : s.dropOnFull.cntLenClamp = s.cntLenClamp := rfl
@[simp] theorem State.dropOnFull_cntTimeout : s.dropOnFull.cntTimeout = s.cntTimeout := rfl
@[simp] theorem State.dropOnFull_timeout : s.dropOnFull.timeout = s.timeout := rfl
@[simp] theorem State.dropOnFull_idleCnt : s.dropOnFull.idleCnt = s.idleCnt := rfl
@[simp] theorem State.dropOnFull_build : s.dropOnFull.build = s.build := rfl
@[simp] theorem State.dropOnFull_input : s.dropOnFull.input = s.input := rfl
@[simp] theorem State.dropOnFull_outcome : s.dropOnFull.outcome = { s.outcome with conditions := s.outcome.conditions ++ [.queueFullDrop] } := rfl

/-! ## State.dropOnMismatch -/

@[simp] theorem State.dropOnMismatch_pstate : s.dropOnMismatch.pstate = s.pstate := rfl
@[simp] theorem State.dropOnMismatch_pcount : s.dropOnMismatch.pcount = s.pcount := rfl
@[simp] theorem State.dropOnMismatch_rxDst : s.dropOnMismatch.rxDst = s.rxDst := rfl
@[simp] theorem State.dropOnMismatch_rxSrc : s.dropOnMismatch.rxSrc = s.rxSrc := rfl
@[simp] theorem State.dropOnMismatch_rxLen : s.dropOnMismatch.rxLen = s.rxLen := rfl
@[simp] theorem State.dropOnMismatch_rxBuf : s.dropOnMismatch.rxBuf = s.rxBuf := rfl
@[simp] theorem State.dropOnMismatch_rxCk : s.dropOnMismatch.rxCk = s.rxCk := rfl
@[simp] theorem State.dropOnMismatch_pre : s.dropOnMismatch.pre = s.pre := rfl
@[simp] theorem State.dropOnMismatch_q : s.dropOnMismatch.q = s.q := rfl
@[simp] theorem State.dropOnMismatch_cntOk : s.dropOnMismatch.cntOk = s.cntOk := rfl
@[simp] theorem State.dropOnMismatch_cntCrcErr : s.dropOnMismatch.cntCrcErr = s.cntCrcErr + 1 := rfl
@[simp] theorem State.dropOnMismatch_cntQDrop : s.dropOnMismatch.cntQDrop = s.cntQDrop := rfl
@[simp] theorem State.dropOnMismatch_cntLenClamp : s.dropOnMismatch.cntLenClamp = s.cntLenClamp := rfl
@[simp] theorem State.dropOnMismatch_cntTimeout : s.dropOnMismatch.cntTimeout = s.cntTimeout := rfl
@[simp] theorem State.dropOnMismatch_timeout : s.dropOnMismatch.timeout = s.timeout := rfl
@[simp] theorem State.dropOnMismatch_idleCnt : s.dropOnMismatch.idleCnt = s.idleCnt := rfl
@[simp] theorem State.dropOnMismatch_build : s.dropOnMismatch.build = s.build := rfl
@[simp] theorem State.dropOnMismatch_input : s.dropOnMismatch.input = s.input := rfl
@[simp] theorem State.dropOnMismatch_outcome : s.dropOnMismatch.outcome = { s.outcome with conditions := s.outcome.conditions ++ [.ckMismatch s.rxCk s.fcs] } := rfl

/-! ## State.leaveSize -/

@[simp] theorem State.leaveSize_pstate : s.leaveSize.pstate = if s.rxLen = 0 then .cksum else .payload := rfl
@[simp] theorem State.leaveSize_pcount : s.leaveSize.pcount = 0 := rfl
@[simp] theorem State.leaveSize_rxDst : s.leaveSize.rxDst = s.rxDst := rfl
@[simp] theorem State.leaveSize_rxSrc : s.leaveSize.rxSrc = s.rxSrc := rfl
@[simp] theorem State.leaveSize_rxLen : s.leaveSize.rxLen = s.rxLen := rfl
@[simp] theorem State.leaveSize_rxBuf : s.leaveSize.rxBuf = s.rxBuf := rfl
@[simp] theorem State.leaveSize_rxCk : s.leaveSize.rxCk = s.rxCk := rfl
@[simp] theorem State.leaveSize_pre : s.leaveSize.pre = s.pre := rfl
@[simp] theorem State.leaveSize_q : s.leaveSize.q = s.q := rfl
@[simp] theorem State.leaveSize_cntOk : s.leaveSize.cntOk = s.cntOk := rfl
@[simp] theorem State.leaveSize_cntCrcErr : s.leaveSize.cntCrcErr = s.cntCrcErr := rfl
@[simp] theorem State.leaveSize_cntQDrop : s.leaveSize.cntQDrop = s.cntQDrop := rfl
@[simp] theorem State.leaveSize_cntLenClamp : s.leaveSize.cntLenClamp = s.cntLenClamp := rfl
@[simp] theorem State.leaveSize_cntTimeout : s.leaveSize.cntTimeout = s.cntTimeout := rfl
@[simp] theorem State.leaveSize_timeout : s.leaveSize.timeout = s.timeout := rfl
@[simp] theorem State.leaveSize_idleCnt : s.leaveSize.idleCnt = s.idleCnt := rfl
@[simp] theorem State.leaveSize_build : s.leaveSize.build = s.build := rfl
@[simp] theorem State.leaveSize_input : s.leaveSize.input = s.input := rfl
@[simp] theorem State.leaveSize_outcome : s.leaveSize.outcome = s.outcome := rfl

/-! ## State.takeCkByte -/

@[simp] theorem State.takeCkByte_pstate (b : Byte) : (s.takeCkByte b).pstate = s.pstate := rfl
@[simp] theorem State.takeCkByte_pcount (b : Byte) : (s.takeCkByte b).pcount = s.pcount := rfl
@[simp] theorem State.takeCkByte_rxDst (b : Byte) : (s.takeCkByte b).rxDst = s.rxDst := rfl
@[simp] theorem State.takeCkByte_rxSrc (b : Byte) : (s.takeCkByte b).rxSrc = s.rxSrc := rfl
@[simp] theorem State.takeCkByte_rxLen (b : Byte) : (s.takeCkByte b).rxLen = s.rxLen := rfl
@[simp] theorem State.takeCkByte_rxBuf (b : Byte) : (s.takeCkByte b).rxBuf = s.rxBuf := rfl
@[simp] theorem State.takeCkByte_rxCk (b : Byte) : (s.takeCkByte b).rxCk = putCkByte s.build.ckOrder s.pcount b s.rxCk := rfl
@[simp] theorem State.takeCkByte_pre (b : Byte) : (s.takeCkByte b).pre = s.pre := rfl
@[simp] theorem State.takeCkByte_q (b : Byte) : (s.takeCkByte b).q = s.q := rfl
@[simp] theorem State.takeCkByte_cntOk (b : Byte) : (s.takeCkByte b).cntOk = s.cntOk := rfl
@[simp] theorem State.takeCkByte_cntCrcErr (b : Byte) : (s.takeCkByte b).cntCrcErr = s.cntCrcErr := rfl
@[simp] theorem State.takeCkByte_cntQDrop (b : Byte) : (s.takeCkByte b).cntQDrop = s.cntQDrop := rfl
@[simp] theorem State.takeCkByte_cntLenClamp (b : Byte) : (s.takeCkByte b).cntLenClamp = s.cntLenClamp := rfl
@[simp] theorem State.takeCkByte_cntTimeout (b : Byte) : (s.takeCkByte b).cntTimeout = s.cntTimeout := rfl
@[simp] theorem State.takeCkByte_timeout (b : Byte) : (s.takeCkByte b).timeout = s.timeout := rfl
@[simp] theorem State.takeCkByte_idleCnt (b : Byte) : (s.takeCkByte b).idleCnt = s.idleCnt := rfl
@[simp] theorem State.takeCkByte_build (b : Byte) : (s.takeCkByte b).build = s.build := rfl
@[simp] theorem State.takeCkByte_input (b : Byte) : (s.takeCkByte b).input = s.input := rfl
@[simp] theorem State.takeCkByte_outcome (b : Byte) : (s.takeCkByte b).outcome = s.outcome := rfl

/-! ## State.arch -/

@[simp] theorem State.arch_pstate : s.arch.pstate = s.pstate := rfl
@[simp] theorem State.arch_pcount : s.arch.pcount = s.pcount := rfl
@[simp] theorem State.arch_rxDst : s.arch.rxDst = s.rxDst := rfl
@[simp] theorem State.arch_rxSrc : s.arch.rxSrc = s.rxSrc := rfl
@[simp] theorem State.arch_rxLen : s.arch.rxLen = s.rxLen := rfl
@[simp] theorem State.arch_rxBuf : s.arch.rxBuf = s.rxBuf := rfl
@[simp] theorem State.arch_rxCk : s.arch.rxCk = s.rxCk := rfl
@[simp] theorem State.arch_pre : s.arch.pre = s.pre := rfl
@[simp] theorem State.arch_q : s.arch.q = s.q := rfl
@[simp] theorem State.arch_cntOk : s.arch.cntOk = s.cntOk := rfl
@[simp] theorem State.arch_cntCrcErr : s.arch.cntCrcErr = s.cntCrcErr := rfl
@[simp] theorem State.arch_cntQDrop : s.arch.cntQDrop = s.cntQDrop := rfl
@[simp] theorem State.arch_cntLenClamp : s.arch.cntLenClamp = s.cntLenClamp := rfl
@[simp] theorem State.arch_cntTimeout : s.arch.cntTimeout = s.cntTimeout := rfl
@[simp] theorem State.arch_timeout : s.arch.timeout = s.timeout := rfl
@[simp] theorem State.arch_idleCnt : s.arch.idleCnt = s.idleCnt := rfl
@[simp] theorem State.arch_build : s.arch.build = s.build := rfl
@[simp] theorem State.arch_input : s.arch.input = [] := rfl
@[simp] theorem State.arch_outcome : s.arch.outcome = { readData := none, conditions := [] } := rfl

/-! ## State.withTrace -/

@[simp] theorem State.withTrace_pstate (ws : List TraceWord) : (s.withTrace ws).pstate = s.pstate := rfl
@[simp] theorem State.withTrace_pcount (ws : List TraceWord) : (s.withTrace ws).pcount = s.pcount := rfl
@[simp] theorem State.withTrace_rxDst (ws : List TraceWord) : (s.withTrace ws).rxDst = s.rxDst := rfl
@[simp] theorem State.withTrace_rxSrc (ws : List TraceWord) : (s.withTrace ws).rxSrc = s.rxSrc := rfl
@[simp] theorem State.withTrace_rxLen (ws : List TraceWord) : (s.withTrace ws).rxLen = s.rxLen := rfl
@[simp] theorem State.withTrace_rxBuf (ws : List TraceWord) : (s.withTrace ws).rxBuf = s.rxBuf := rfl
@[simp] theorem State.withTrace_rxCk (ws : List TraceWord) : (s.withTrace ws).rxCk = s.rxCk := rfl
@[simp] theorem State.withTrace_pre (ws : List TraceWord) : (s.withTrace ws).pre = s.pre := rfl
@[simp] theorem State.withTrace_q (ws : List TraceWord) : (s.withTrace ws).q = s.q := rfl
@[simp] theorem State.withTrace_cntOk (ws : List TraceWord) : (s.withTrace ws).cntOk = s.cntOk := rfl
@[simp] theorem State.withTrace_cntCrcErr (ws : List TraceWord) : (s.withTrace ws).cntCrcErr = s.cntCrcErr := rfl
@[simp] theorem State.withTrace_cntQDrop (ws : List TraceWord) : (s.withTrace ws).cntQDrop = s.cntQDrop := rfl
@[simp] theorem State.withTrace_cntLenClamp (ws : List TraceWord) : (s.withTrace ws).cntLenClamp = s.cntLenClamp := rfl
@[simp] theorem State.withTrace_cntTimeout (ws : List TraceWord) : (s.withTrace ws).cntTimeout = s.cntTimeout := rfl
@[simp] theorem State.withTrace_timeout (ws : List TraceWord) : (s.withTrace ws).timeout = s.timeout := rfl
@[simp] theorem State.withTrace_idleCnt (ws : List TraceWord) : (s.withTrace ws).idleCnt = s.idleCnt := rfl
@[simp] theorem State.withTrace_build (ws : List TraceWord) : (s.withTrace ws).build = s.build := rfl
@[simp] theorem State.withTrace_input (ws : List TraceWord) : (s.withTrace ws).input = ws ++ s.input := rfl
@[simp] theorem State.withTrace_outcome (ws : List TraceWord) : (s.withTrace ws).outcome = s.outcome := rfl

/-! ## What is computed from a state, after an update that leaves it alone -/

@[simp] theorem State.beginEvent_fcs : s.beginEvent.fcs = s.fcs := rfl
@[simp] theorem State.takeCkByte_fcs (b : Byte) : (s.takeCkByte b).fcs = s.fcs := rfl
@[simp] theorem State.beginEvent_rxMessage : s.beginEvent.rxMessage = s.rxMessage := rfl
@[simp] theorem State.takeCkByte_rxMessage (b : Byte) : (s.takeCkByte b).rxMessage = s.rxMessage := rfl
@[simp] theorem State.beginEvent_hasRoom : s.beginEvent.hasRoom = s.hasRoom := rfl
@[simp] theorem State.takeCkByte_hasRoom (b : Byte) : (s.takeCkByte b).hasRoom = s.hasRoom := rfl

end Sys2Proof.Machine
end

