-- ==== Sys2Proof/Laws/Ops.lean ====
section
/-! SUPPORT. Laws/Ops.lean: for each shared operation one lemma that says once everything it can do, and for each event the
state its meaning gives, so that a proof cites these and unfolds no operation. -/

namespace Sys2Proof.Machine

/-! ## The timer and the queue -/

/-- What the timer step can do (R138). -/
theorem State.timerStep_spec (s : State) :
    ((s.timeout = 0 ∨ (s.pstate = .pre ∧ s.pcount = 0)) ∧ s.timerStep = s.restartIdle)
      ∨ (s.timeout ≠ 0 ∧ ¬(s.pstate = .pre ∧ s.pcount = 0) ∧ s.timeout.toNat ≤ s.idleCnt.toNat + 1
        ∧ s.timerStep = s.fireTimeout)
      ∨ (s.timeout ≠ 0 ∧ ¬(s.pstate = .pre ∧ s.pcount = 0) ∧ s.idleCnt.toNat + 1 < s.timeout.toNat
        ∧ s.timerStep = { s with idleCnt := s.idleCnt + 1 }) := by
  unfold State.timerStep
  by_cases h : s.timeout = 0 ∨ s.parserIdle = true
  · left
    exact ⟨by simpa [State.parserIdle] using h, if_pos h⟩
  · right
    rw [if_neg h]
    simp only [not_or, State.parserIdle, decide_eq_true_eq] at h
    by_cases h2 : s.timeout.toNat ≤ s.idleCnt.toNat + 1
    · left
      exact ⟨h.1, h.2, h2, if_pos h2⟩
    · right
      exact ⟨h.1, h.2, by omega, if_neg h2⟩

/-- What POP can do (R103). -/
theorem State.pop_spec (s : State) :
    (s.q = [] ∧ s.pop = s.raise .popEmpty) ∨ (∃ m rest, s.q = m :: rest ∧ s.pop = { s with q := rest }) := by
  unfold State.pop
  cases h : s.q with
  | nil => exact .inl ⟨rfl, rfl⟩
  | cons m rest => exact .inr ⟨m, rest, rfl, rfl⟩

/-- Room for a push, as a proposition (R92). -/
theorem State.hasRoom_iff (s : State) : s.hasRoom = true ↔ ∀ n, s.build.queueDepth = .bounded n → s.q.length < n := by
  unfold State.hasRoom
  cases s.build.queueDepth with
  | bounded n => simp
  | unbounded => simp

/-- What the integrity check can do (R92, R102). -/
theorem State.checkFrame_spec (s : State) :
    (s.rxCk = s.fcs ∧ s.hasRoom = true ∧ s.checkFrame = s.acceptFrame.toPre)
      ∨ (s.rxCk = s.fcs ∧ s.hasRoom = false ∧ s.checkFrame = s.dropOnFull.toPre)
      ∨ (s.rxCk ≠ s.fcs ∧ s.checkFrame = s.dropOnMismatch.toPre) := by
  unfold State.checkFrame
  by_cases h : s.rxCk = s.fcs
  · rw [if_pos h]
    by_cases hr : s.hasRoom = true
    · exact .inl ⟨h, hr, by rw [if_pos hr]⟩
    · exact .inr (.inl ⟨h, by simpa using hr, by rw [if_neg hr]⟩)
  · exact .inr (.inr ⟨h, by rw [if_neg h]⟩)

/-! ## The parser, one lemma for each state -/

/-- What a byte in PRE can do (R85). -/
theorem State.parse_pre (s : State) (b : Byte) (h : s.pstate = .pre) :
    (b = s.pre.get s.pcount ∧ s.pcount = 3 ∧ s.parse b = { s with pstate := .addr, pcount := 0 })
      ∨ (b = s.pre.get s.pcount ∧ s.pcount ≠ 3 ∧ s.parse b = { s with pcount := s.pcount + 1 })
      ∨ (b ≠ s.pre.get s.pcount ∧ s.parse b = { s.raise (.syncMiss b s.pcount) with pcount := 0 }) := by
  simp only [State.parse, h, State.rxPre]
  by_cases hb : b = s.pre.get s.pcount
  · rw [if_pos hb]
    by_cases h3 : s.pcount = 3
    · exact .inl ⟨hb, h3, by rw [if_pos h3]⟩
    · exact .inr (.inl ⟨hb, h3, by rw [if_neg h3]⟩)
  · exact .inr (.inr ⟨hb, by rw [if_neg hb]⟩)

/-- What a byte in ADDR can do (R87). -/
theorem State.parse_addr (s : State) (b : Byte) (h : s.pstate = .addr) :
    (s.pcount = 0 ∧ s.parse b = { s with rxDst := b, pcount := 1 })
      ∨ (s.pcount ≠ 0 ∧ s.parse b = { s with rxSrc := b, pstate := .size, pcount := 0 }) := by
  simp only [State.parse, h, State.rxAddr]
  by_cases h0 : s.pcount = 0
  · exact .inl ⟨h0, by rw [if_pos h0]⟩
  · exact .inr ⟨h0, by rw [if_neg h0]⟩

/-- A byte in SIZE (R88, R89). -/
theorem State.parse_size (s : State) (b : Byte) (h : s.pstate = .size) : s.parse b = (s.takeLength b).leaveSize := by
  simp only [State.parse, h, State.rxSize]

/-- The length byte taken: RX_LEN is the clamped length (R88). -/
theorem State.takeLength_spec (s : State) (b : Byte) :
    (s.build.maxPayload < b.toNat ∧ s.takeLength b =
        { s.raise (.lenClamped b) with rxLen := clampLen s.build.maxPayload b, cntLenClamp := s.cntLenClamp + 1 })
      ∨ (b.toNat ≤ s.build.maxPayload ∧ s.takeLength b = { s with rxLen := clampLen s.build.maxPayload b }) := by
  unfold State.takeLength
  by_cases h : s.build.maxPayload < b.toNat
  · exact .inl ⟨h, if_pos h⟩
  · refine .inr ⟨by omega, ?_⟩
    rw [if_neg h, clampLen, if_neg h]

/-- What a byte in PAYLOAD can do (R90). -/
theorem State.parse_payload (s : State) (b : Byte) (h : s.pstate = .payload) :
    (s.pcount.toNat + 1 = s.rxLen.toNat
        ∧ s.parse b = { s with rxBuf := s.rxBuf.set s.pcount.toNat b, pstate := .cksum, pcount := 0 })
      ∨ (s.pcount.toNat + 1 ≠ s.rxLen.toNat
        ∧ s.parse b = { s with rxBuf := s.rxBuf.set s.pcount.toNat b, pcount := s.pcount + 1 }) := by
  simp only [State.parse, h, State.rxPayloadByte]
  by_cases hl : s.pcount.toNat + 1 = s.rxLen.toNat
  · exact .inl ⟨hl, by rw [if_pos hl]⟩
  · exact .inr ⟨hl, by rw [if_neg hl]⟩

/-- What a byte in CKSUM can do (R91, R92). -/
theorem State.parse_cksum (s : State) (b : Byte) (h : s.pstate = .cksum) :
    (s.pcount.toNat < 3 ∧ s.parse b = { s.takeCkByte b with pcount := s.pcount + 1 })
      ∨ (3 ≤ s.pcount.toNat ∧ s.parse b = (s.takeCkByte b).checkFrame) := by
  simp only [State.parse, h, State.rxCksum]
  by_cases h3 : s.pcount < 3
  · exact .inl ⟨h3, by rw [if_pos h3]⟩
  · exact .inr ⟨Nat.le_of_not_lt h3, by rw [if_neg h3]⟩

/-! ## The events -/

variable (s : State)

theorem exec_tick : exec .tick s = .next s.beginEvent.timerStep := rfl
theorem exec_rxByte (b : Byte) : exec (.rxByte b) s = .next (s.beginEvent.parse b).restartIdle := rfl
theorem exec_rxError : exec .rxError s = .next (s.beginEvent.raise .rxIoError).timerStep := rfl
theorem exec_rdPreamble : exec .rdPreamble s = .next (s.beginEvent.answer s.pre.word) := rfl
theorem exec_rdCtrl : exec .rdCtrl s = .next (s.beginEvent.answer 0) := rfl
theorem exec_rdStatus : exec .rdStatus s = .next (s.beginEvent.answer s.statusWord) := rfl
theorem exec_rdHeadInfo : exec .rdHeadInfo s = .next (s.beginEvent.answer s.headInfoWord) := rfl
theorem exec_rdCntOk : exec .rdCntOk s = .next (s.beginEvent.answer s.cntOk) := rfl
theorem exec_rdCntCrcErr : exec .rdCntCrcErr s = .next (s.beginEvent.answer s.cntCrcErr) := rfl
theorem exec_rdCntQDrop : exec .rdCntQDrop s = .next (s.beginEvent.answer s.cntQDrop) := rfl
theorem exec_rdCntLenClamp : exec .rdCntLenClamp s = .next (s.beginEvent.answer s.cntLenClamp) := rfl
theorem exec_rdCntTimeout : exec .rdCntTimeout s = .next (s.beginEvent.answer s.cntTimeout) := rfl
theorem exec_rdTimeout : exec .rdTimeout s = .next (s.beginEvent.answer s.timeout) := rfl
theorem exec_rdParams : exec .rdParams s = .next (s.beginEvent.answer (paramsWord s.build)) := rfl
theorem exec_rdHeadData (k : BitVec 6) : exec (.rdHeadData k) s = .next (s.beginEvent.answer (s.headDataWord k.toNat)) := rfl
theorem exec_rdReserved (a : CsrAddr) :
    exec (.rdReserved a) s = .next ((s.beginEvent.raise (.csrReserved a)).answer 0) := rfl
theorem exec_wrPreamble (v : Word32) : exec (.wrPreamble v) s = .next { s.beginEvent with pre := unpackPreamble v } := rfl
theorem exec_wrCtrl (v : Word32) : exec (.wrCtrl v) s = .next (s.beginEvent.runCommands v) := rfl
theorem exec_wrTimeout (v : Word32) : exec (.wrTimeout v) s = .next { s.beginEvent with timeout := v, idleCnt := 0 } := rfl
theorem exec_wrIgnored (a : CsrAddr) (v : Word32) :
    exec (.wrIgnored a v) s = .next (s.beginEvent.raise (.csrReserved a)) := rfl

/-! ## Runs -/

@[simp] theorem andThen_next {α β φ ρ : Type} (a : α) (f : α → Host.Outcome β φ ρ) : andThen (.next a) f = f a := rfl

@[simp] theorem runEvents_nil : runEvents [] s = .next (s, []) := rfl

theorem runEvents_cons (i : Instr) (is : List Instr) :
    runEvents (i :: is) s = andThen (exec i s) fun t => andThen (runEvents is t) fun r => .next (r.1, t.observation :: r.2) :=
  rfl

/-- What a computation that gives a result has done first. -/
theorem andThen_eq_next {α β φ ρ : Type} {o : Host.Outcome α φ ρ} {f : α → Host.Outcome β φ ρ} {b : β}
    (h : andThen o f = .next b) : ∃ a, o = .next a ∧ f a = .next b := by
  cases o with
  | next a => exact ⟨a, rfl, h⟩
  | fault r => cases h
  | refused r => cases h

/-- A run of one event after another (R64). -/
theorem runEvents_append (is js : List Instr) :
    runEvents (is ++ js) s =
      andThen (runEvents is s) fun r => andThen (runEvents js r.1) fun r' => .next (r'.1, r.2 ++ r'.2) := by
  induction is generalizing s with
  | nil =>
    simp only [List.nil_append, runEvents_nil, andThen_next]
    cases runEvents js s with
    | next r => rfl
    | fault r => rfl
    | refused r => rfl
  | cons i is ih =>
    simp only [List.cons_append, runEvents_cons, ih]
    cases exec i s with
    | next t =>
      simp only [andThen_next]
      cases runEvents is t with
      | next r =>
        simp only [andThen_next]
        cases runEvents js r.1 with
        | next r' => rfl
        | fault r' => rfl
        | refused r' => rfl
      | fault r => rfl
      | refused r => rfl
    | fault r => rfl
    | refused r => rfl

end Sys2Proof.Machine
end

