-- ==== Sys2Proof/Laws/PerInstr.lean ====
section
/-! SUPPORT. Laws/PerInstr.lean: statements made once for each constructor of Instr. EncodedRow: the encoding of a well-formed
event carries the fixed bits of its row of opcode_table.json, mask and match transcribed from the table. -/

namespace Sys2Proof.Laws

/-- The mask of an event's row in opcode_table.json. -/
def rowMask : Instr → TraceWord
  | .tick => 0xFFFFFFFFFFFF
  | .rxByte _ => 0xFFFFFFFFFF00
  | .rxError => 0xFFFFFFFFFFFF
  | .rdPreamble => 0xFFFCFFFFFFFF
  | .rdCtrl => 0xFFFCFFFFFFFF
  | .rdStatus => 0xFFFCFFFFFFFF
  | .rdHeadInfo => 0xFFFCFFFFFFFF
  | .rdCntOk => 0xFFFCFFFFFFFF
  | .rdCntCrcErr => 0xFFFCFFFFFFFF
  | .rdCntQDrop => 0xFFFCFFFFFFFF
  | .rdCntLenClamp => 0xFFFCFFFFFFFF
  | .rdCntTimeout => 0xFFFCFFFFFFFF
  | .rdTimeout => 0xFFFCFFFFFFFF
  | .rdParams => 0xFFFCFFFFFFFF
  | .rdHeadData _ => 0xFF00FFFFFFFF
  | .rdReserved _ => 0xF000FFFFFFFF
  | .wrPreamble _ => 0xFFFC00000000
  | .wrCtrl _ => 0xFFFC00000000
  | .wrTimeout _ => 0xFFFC00000000
  | .wrIgnored _ _ => 0xF00000000000
  | .reset => 0xFFFFFFFFFFFF

/-- The match value of an event's row in opcode_table.json. -/
def rowMatch : Instr → TraceWord
  | .tick => 0x000000000000
  | .rxByte _ => 0x100000000000
  | .rxError => 0x200000000000
  | .rdPreamble => 0x300000000000
  | .rdCtrl => 0x300400000000
  | .rdStatus => 0x300800000000
  | .rdHeadInfo => 0x300C00000000
  | .rdCntOk => 0x301000000000
  | .rdCntCrcErr => 0x301400000000
  | .rdCntQDrop => 0x301800000000
  | .rdCntLenClamp => 0x301C00000000
  | .rdCntTimeout => 0x302000000000
  | .rdTimeout => 0x302400000000
  | .rdParams => 0x302800000000
  | .rdHeadData _ => 0x310000000000
  | .rdReserved _ => 0x300000000000
  | .wrPreamble _ => 0x400000000000
  | .wrCtrl _ => 0x400400000000
  | .wrTimeout _ => 0x402400000000
  | .wrIgnored _ _ => 0x400000000000
  | .reset => 0x500000000000

/-- The encoding carries its row's fixed bits. -/
def EncodedRow.Statement (i : Instr) : Prop := i.wellFormed = true → encode i &&& rowMask i = rowMatch i

/-- Masking a trace word masks its fields. -/
theorem mkWord_and (k k' : BitVec 4) (a a' : CsrAddr) (d d' : Word32) :
    mkWord k a d &&& mkWord k' a' d' = mkWord (k &&& k') (a &&& a') (d &&& d') := by
  apply BitVec.eq_of_getLsbD_eq
  intro i hi
  simp only [mkWord, BitVec.getLsbD_and, BitVec.getLsbD_append]
  split
  · rfl
  · split
    · rfl
    · rfl

namespace EncodedRow

theorem tick : Statement .tick := fun _ => (by decide : encode .tick &&& rowMask .tick = rowMatch .tick)
theorem rxByte (b : Byte) : Statement (.rxByte b) := fun _ =>
  (by decide +kernel : ∀ b, encode (.rxByte b) &&& rowMask (.rxByte b) = rowMatch (.rxByte b)) b
theorem rxError : Statement .rxError := fun _ => (by decide : encode .rxError &&& rowMask .rxError = rowMatch .rxError)
theorem rdPreamble : Statement .rdPreamble := fun _ => (by decide : encode .rdPreamble &&& rowMask .rdPreamble = rowMatch .rdPreamble)
theorem rdCtrl : Statement .rdCtrl := fun _ => (by decide : encode .rdCtrl &&& rowMask .rdCtrl = rowMatch .rdCtrl)
theorem rdStatus : Statement .rdStatus := fun _ => (by decide : encode .rdStatus &&& rowMask .rdStatus = rowMatch .rdStatus)
theorem rdHeadInfo : Statement .rdHeadInfo := fun _ => (by decide : encode .rdHeadInfo &&& rowMask .rdHeadInfo = rowMatch .rdHeadInfo)
theorem rdCntOk : Statement .rdCntOk := fun _ => (by decide : encode .rdCntOk &&& rowMask .rdCntOk = rowMatch .rdCntOk)
theorem rdCntCrcErr : Statement .rdCntCrcErr := fun _ => (by decide : encode .rdCntCrcErr &&& rowMask .rdCntCrcErr = rowMatch .rdCntCrcErr)
theorem rdCntQDrop : Statement .rdCntQDrop := fun _ => (by decide : encode .rdCntQDrop &&& rowMask .rdCntQDrop = rowMatch .rdCntQDrop)
theorem rdCntLenClamp : Statement .rdCntLenClamp := fun _ => (by decide : encode .rdCntLenClamp &&& rowMask .rdCntLenClamp = rowMatch .rdCntLenClamp)
theorem rdCntTimeout : Statement .rdCntTimeout := fun _ => (by decide : encode .rdCntTimeout &&& rowMask .rdCntTimeout = rowMatch .rdCntTimeout)
theorem rdTimeout : Statement .rdTimeout := fun _ => (by decide : encode .rdTimeout &&& rowMask .rdTimeout = rowMatch .rdTimeout)
theorem rdParams : Statement .rdParams := fun _ => (by decide : encode .rdParams &&& rowMask .rdParams = rowMatch .rdParams)
theorem rdHeadData (k : BitVec 6) : Statement (.rdHeadData k) := fun _ =>
  (by decide +kernel : ∀ k, encode (.rdHeadData k) &&& rowMask (.rdHeadData k) = rowMatch (.rdHeadData k)) k
theorem rdReserved (a : CsrAddr) : Statement (.rdReserved a) := fun _ => by
  show mkWord 0x3 a 0 &&& mkWord 0xF 0 0xFFFFFFFF = mkWord 0x3 0 0
  simp [mkWord_and]
theorem wrPreamble (v : Word32) : Statement (.wrPreamble v) := fun _ => by
  show mkWord 0x4 0 v &&& mkWord 0xF 0xFFC 0 = mkWord 0x4 0 0
  simp [mkWord_and]
theorem wrCtrl (v : Word32) : Statement (.wrCtrl v) := fun _ => by
  show mkWord 0x4 0x004 v &&& mkWord 0xF 0xFFC 0 = mkWord 0x4 0x004 0
  simp [mkWord_and]
theorem wrTimeout (v : Word32) : Statement (.wrTimeout v) := fun _ => by
  show mkWord 0x4 0x024 v &&& mkWord 0xF 0xFFC 0 = mkWord 0x4 0x024 0
  simp [mkWord_and]
theorem wrIgnored (a : CsrAddr) (v : Word32) : Statement (.wrIgnored a v) := fun _ => by
  show mkWord 0x4 a v &&& mkWord 0xF 0 0 = mkWord 0x4 0 0
  simp [mkWord_and]
theorem reset : Statement .reset := fun _ => (by decide : encode .reset &&& rowMask .reset = rowMatch .reset)

end EncodedRow

end Sys2Proof.Laws
end

