-- ==== Sys2Proof/Laws/System.lean ====
section
/-! SUPPORT. Laws/System.lean: the small lemmas of an instance's CSR window (20_memory.md R58, 60_exceptions.md R141). -/

namespace Sys2Proof.Machine

/-- What the window decoder can answer. -/
theorem Block.offset_spec (k : Block) (addr : Nat) :
    (∃ a : CsrAddr, addr = k.address a ∧ k.offset addr = some a)
      ∨ ((addr < k.csrBase ∨ k.csrBase + 4096 ≤ addr) ∧ k.offset addr = none) := by
  unfold Block.offset Block.address
  by_cases h : k.csrBase ≤ addr ∧ addr < k.csrBase + 4096
  · refine .inl ⟨_, ?_, if_pos h⟩
    rw [BitVec.toNat_ofNat, Nat.mod_eq_of_lt (by omega)]
    omega
  · exact .inr ⟨by omega, if_neg h⟩

/-- A register's address in the system lies in its instance's window, at that register. -/
@[simp] theorem Block.offset_address (k : Block) (a : CsrAddr) : k.offset (k.address a) = some a := by
  have ha := a.isLt
  unfold Block.offset Block.address
  rw [if_pos (by omega), Nat.add_sub_cancel_left, BitVec.ofNat_toNat, BitVec.setWidth_eq]

/-- A window apart from another's holds none of its addresses. -/
theorem Block.offset_address_of_disjoint {j k : Block} (a : CsrAddr)
    (h : j.csrBase + 4096 ≤ k.csrBase ∨ k.csrBase + 4096 ≤ j.csrBase) : j.offset (k.address a) = none := by
  have ha := a.isLt
  unfold Block.offset Block.address
  rw [if_neg (by omega)]

/-- An access outside the window leaves the instance as it was. -/
theorem Block.accept_of_none {k : Block} {acc : SystemAccess} (h : k.access acc = none) : k.accept acc = k := by
  rw [Block.accept, h]

/-- An access in the window becomes the instance's next event. -/
theorem Block.accept_of_some {k : Block} {acc : SystemAccess} {c : CsrAccess} (h : k.access acc = some c) :
    k.accept acc = { k with state := k.state.withTrace [c.word] } := by
  rw [Block.accept, h]

end Sys2Proof.Machine
end

