-- ==== Sys2Proof/Tests/Slice0.lean ====
section
/-! SUPPORT. Tests/Slice0.lean: tests whose expected results come from spec/95_test_vectors.md or from hand calculation with
the rule named, and one theorem for each obligation with hypotheses that shows a state and operands which meet them. -/

namespace Sys2Proof.Tests

open Sys2Proof.Machine

/-! ## WellFormed: an ill-formed term for each check -/

/-- 0x008 is STATUS, 0x028 PARAMS and 0x100 to 0x1FC HEAD_DATA: no RD_RESERVED has such an address (R125). -/
theorem test_wellFormed_rdReserved :
    (Instr.rdReserved 0x008).wellFormed = false ∧ (Instr.rdReserved 0x02B).wellFormed = false
      ∧ (Instr.rdReserved 0x100).wellFormed = false ∧ (Instr.rdReserved 0x1FF).wellFormed = false
      ∧ (Instr.rdReserved 0x02C).wellFormed = true ∧ (Instr.rdReserved 0x0FF).wellFormed = true
      ∧ (Instr.rdReserved 0x200).wellFormed = true ∧ (Instr.rdReserved 0xFFF).wellFormed = true := by decide

/-- PREAMBLE, CTRL and TIMEOUT have write rules of their own (R126). -/
theorem test_wellFormed_wrIgnored :
    (Instr.wrIgnored 0x003 0).wellFormed = false ∧ (Instr.wrIgnored 0x004 0).wellFormed = false
      ∧ (Instr.wrIgnored 0x027 0).wellFormed = false ∧ (Instr.wrIgnored 0x008 0).wellFormed = true
      ∧ (Instr.wrIgnored 0x028 0).wellFormed = true ∧ (Instr.wrIgnored 0x1FC 0).wellFormed = true := by decide

/-! ## Decode: words written out from R73, R74 and R76 (vectors V-L2-ENC-1 to V-L2-ENC-13) -/

theorem test_decode_tick : decode 0x000000000000 = .ok .tick := by decide
theorem test_decode_rxByte : decode 0x1000000000AA = .ok (.rxByte 0xAA) := by decide
theorem test_decode_rxError : decode 0x200000000000 = .ok .rxError := by decide
theorem test_decode_rdPreamble : decode 0x300000000000 = .ok .rdPreamble := by decide
theorem test_decode_rdCtrl : decode 0x300400000000 = .ok .rdCtrl := by decide
theorem test_decode_rdStatus :
    decode 0x300800000000 = .ok .rdStatus ∧ decode 0x300B00000000 = .ok .rdStatus := by decide
theorem test_decode_rdHeadInfo : decode 0x300C00000000 = .ok .rdHeadInfo := by decide
theorem test_decode_rdCntOk : decode 0x301000000000 = .ok .rdCntOk := by decide
theorem test_decode_rdCntCrcErr : decode 0x301400000000 = .ok .rdCntCrcErr := by decide
theorem test_decode_rdCntQDrop : decode 0x301800000000 = .ok .rdCntQDrop := by decide
theorem test_decode_rdCntLenClamp : decode 0x301C00000000 = .ok .rdCntLenClamp := by decide
theorem test_decode_rdCntTimeout : decode 0x302000000000 = .ok .rdCntTimeout := by decide
theorem test_decode_rdTimeout : decode 0x302400000000 = .ok .rdTimeout := by decide
theorem test_decode_rdParams :
    decode 0x302800000000 = .ok .rdParams ∧ decode 0x302B00000000 = .ok .rdParams := by decide
theorem test_decode_rdHeadData :
    decode 0x311C00000000 = .ok (.rdHeadData 7) ∧ decode 0x310000000000 = .ok (.rdHeadData 0)
      ∧ decode 0x31FF00000000 = .ok (.rdHeadData 63) := by decide
theorem test_decode_rdReserved :
    decode 0x302C00000000 = .ok (.rdReserved 0x02C) ∧ decode 0x30FC00000000 = .ok (.rdReserved 0x0FC)
      ∧ decode 0x320000000000 = .ok (.rdReserved 0x200) ∧ decode 0x3FFC00000000 = .ok (.rdReserved 0xFFC) := by decide
theorem test_decode_wrPreamble : decode 0x40007E7E7E7E = .ok (.wrPreamble 0x7E7E7E7E) := by decide
theorem test_decode_wrCtrl : decode 0x400400000001 = .ok (.wrCtrl 1) := by decide
theorem test_decode_wrTimeout : decode 0x402400000003 = .ok (.wrTimeout 3) := by decide
theorem test_decode_wrIgnored :
    decode 0x40280000FFFF = .ok (.wrIgnored 0x028 0x0000FFFF) ∧ decode 0x4008FFFFFFFF = .ok (.wrIgnored 0x008 0xFFFFFFFF)
      ∧ decode 0x411C00000000 = .ok (.wrIgnored 0x11C 0) := by decide
theorem test_decode_reset : decode 0x500000000000 = .ok .reset := by decide

/-- One word for each kind of illegal word (R77). -/
theorem test_decode_illegal :
    decode 0x600000000000 = .error .kind ∧ decode 0xF00000000000 = .error .kind
      ∧ decode 0x000100000000 = .error .tickFields ∧ decode 0x000000000001 = .error .tickFields
      ∧ decode 0x200000000001 = .error .rxErrorFields ∧ decode 0x580000000000 = .error .resetFields
      ∧ decode 0x100000000100 = .error .rxByteFields ∧ decode 0x1001000000AA = .error .rxByteFields
      ∧ decode 0x300800000001 = .error .csrReadData := by decide

/-- Every event decodes from the word the encoder writes for it, and a table row's word is read as such. -/
theorem test_decodeTableWord :
    decodeTableWord 48 0x40280000FFFF = some (.wrIgnored 0x028 0x0000FFFF) ∧ decodeTableWord 48 0x700000000000 = none := by
  decide

/-! ## States for the tests -/

/-- M = 2 and QD = 1, with the suggested CHECKSUM (log 3). -/
def build : Build := { maxPayload := 2, queueDepth := .bounded 1, ckOrder := .le, checksum := .crc32IsoHdlc }

/-- The same with the checksum's most significant byte first on the wire, and an unbounded queue. -/
def buildBe : Build := { build with queueDepth := .unbounded, ckOrder := .be }

/-- The reset state of that block. -/
def s0 : State := State.initial build

/-- The parser at the given place. -/
def inState (p : PState) (k : Byte) : State := { s0 with pstate := p, pcount := k }

/-- A message with a two-byte payload. -/
def hi : Message := { src := 0x05, size := 2, payload := [0x68, 0x69] }

/-- The reset state with that message queued, which fills the queue. -/
def sFull : State := { s0 with q := [hi] }

/-- The state before the last byte, FF, of frame Z (00 00 00, checksum 0xFF41D912, sent 12 D9 41 FF). -/
def sLast : State := { inState .cksum 3 with rxCk := 0x0041D912 }

/-- That state with the queue full. -/
def sLastFull : State := { sLast with q := [hi] }

/-- Mid-payload, at the last payload byte. -/
def sPay : State := { inState .payload 1 with rxLen := 2, rxBuf := [0x68, 0x00] }

/-- The next state of an event. -/
def after (i : Instr) (s : State) : Option State := nextState (exec i s)

/-- The invariants as a computation. -/
def invCheck (s : State) : Bool :=
  decide s.build.Legal
    && (match s.pstate with
        | .pre => decide (s.pcount.toNat ≤ 3)
        | .addr => decide (s.pcount.toNat ≤ 1)
        | .size => decide (s.pcount = 0)
        | .payload => decide (1 ≤ s.rxLen.toNat ∧ s.pcount.toNat < s.rxLen.toNat)
        | .cksum => decide (s.pcount.toNat ≤ 3))
    && decide (s.rxLen.toNat ≤ s.build.maxPayload) && decide (s.rxBuf.length = s.build.maxPayload)
    && (match s.build.queueDepth with
        | .bounded n => decide (s.q.length ≤ n)
        | .unbounded => true)
    && s.q.all (fun m => decide (m.payload.length = m.size.toNat ∧ m.size.toNat ≤ s.build.maxPayload))
    && (if s.timeout = 0 then decide (s.idleCnt = 0) else decide (s.idleCnt.toNat < s.timeout.toNat))

/-- A state that passes the computation satisfies the invariants. -/
theorem inv_of_check {s : State} (h : invCheck s = true) : s.Inv := by
  simp only [invCheck, Bool.and_eq_true, decide_eq_true_eq, List.all_eq_true] at h
  obtain ⟨⟨⟨⟨⟨⟨h1, h2⟩, h3⟩, h4⟩, h5⟩, h6⟩, h7⟩ := h
  refine ⟨h1, ?_, ?_, ?_, ?_, ?_, h3, h4, ?_, h6, ?_, ?_⟩
  · intro e
    simpa [e] using h2
  · intro e
    simpa [e] using h2
  · intro e
    simpa [e] using h2
  · intro e
    simpa [e] using h2
  · intro e
    simpa [e] using h2
  · intro n e
    simpa [e] using h5
  · intro e
    rw [if_neg e] at h7
    exact of_decide_eq_true h7
  · intro e
    rw [if_pos e] at h7
    exact of_decide_eq_true h7

/-! ## One step of each event -/

/-- V-L2-TMR-2, third tick: TIMEOUT_RESYNC(ADDR, 1), and (PRE, 0). -/
theorem test_tick_fires :
    (after .tick { inState .addr 1 with timeout := 3, idleCnt := 2 }).map
        (fun t => (t.pstate, t.pcount, t.idleCnt, t.cntTimeout, t.outcome.conditions))
      = some (.pre, 0, 0, 1, [.timeoutResync .addr 1]) := by decide

/-- V-L2-TMR-2, second tick: IDLE_CNT = 2 and nothing else. -/
theorem test_tick_counts :
    (after .tick { inState .addr 1 with timeout := 3, idleCnt := 1 }).map
        (fun t => (t.pstate, t.pcount, t.idleCnt, t.cntTimeout, t.outcome.conditions))
      = some (.addr, 1, 2, 0, []) := by decide

/-- V-L2-PRE-3: the mismatching byte is not retested as P[0]. -/
theorem test_rxByte_mismatch :
    (after (.rxByte 0xAA) (inState .pre 2)).map (fun t => (t.pstate, t.pcount, t.outcome.conditions))
      = some (.pre, 0, [.syncMiss 0xAA 2]) := by decide

/-- V-L2-ADDR-3, last byte of frame Z: accepted, {00, 0, no payload}. -/
theorem test_rxByte_last :
    (after (.rxByte 0xFF) sLast).map (fun t => (t.pstate, t.pcount, t.q, t.cntOk, t.outcome.conditions))
      = some (.pre, 0, [{ src := 0, size := 0, payload := [] }], 1, []) := by decide +kernel

/-- V-L2-TMR-4, second rxerr: RX_IO_ERROR, then TIMEOUT_RESYNC(PRE, 1). -/
theorem test_rxError_fires :
    (after .rxError { inState .pre 1 with timeout := 2, idleCnt := 1 }).map
        (fun t => (t.pstate, t.pcount, t.cntTimeout, t.outcome.conditions))
      = some (.pre, 0, 1, [.rxIoError, .timeoutResync .pre 1]) := by decide

/-- V-L2-CSR-1. -/
theorem test_rdPreamble : (after .rdPreamble s0).map (·.outcome) = some (returned 0xDDCCBBAA) := by decide

/-- R116: CTRL holds no storage. -/
theorem test_rdCtrl : (after .rdCtrl sFull).map (·.outcome) = some (returned 0) := by decide

/-- R115 example: (PRE, 2) reads 0x00000200. -/
theorem test_rdStatus_parser : (after .rdStatus (inState .pre 2)).map (·.outcome) = some (returned 0x00000200) := by decide

/-- R40: one message in a queue of depth 1 is AVAIL, FULL and QCOUNT 1. -/
theorem test_rdStatus_queue : (after .rdStatus sFull).map (·.outcome) = some (returned 0x00010003) := by decide

/-- R105 example. -/
theorem test_rdHeadInfo : (after .rdHeadInfo sFull).map (·.outcome) = some (returned 0x00000205) := by decide

theorem test_rdCntOk : (after .rdCntOk { s0 with cntOk := 7 }).map (·.outcome) = some (returned 7) := by decide
theorem test_rdCntCrcErr : (after .rdCntCrcErr { s0 with cntCrcErr := 7 }).map (·.outcome) = some (returned 7) := by decide
theorem test_rdCntQDrop : (after .rdCntQDrop { s0 with cntQDrop := 7 }).map (·.outcome) = some (returned 7) := by decide
theorem test_rdCntLenClamp :
    (after .rdCntLenClamp { s0 with cntLenClamp := 7 }).map (·.outcome) = some (returned 7) := by decide
theorem test_rdCntTimeout :
    (after .rdCntTimeout { s0 with cntTimeout := 7 }).map (·.outcome) = some (returned 7) := by decide
theorem test_rdTimeout : (after .rdTimeout { s0 with timeout := 3 }).map (·.outcome) = some (returned 3) := by decide

/-- V-L2-CSR-1, for the default build. -/
theorem test_rdParams : (after .rdParams State.reset).map (·.outcome) = some (returned 0x00440820) := by decide

/-- V-L2-CK-2, for CK_ORDER = BE. -/
theorem test_rdParams_be :
    (after .rdParams (State.initial { Build.default with ckOrder := .be })).map (·.outcome) = some (returned 0x01440820) := by
  decide

/-- R106 example. -/
theorem test_rdHeadData : (after (.rdHeadData 0) sFull).map (·.outcome) = some (returned 0x00006968) := by decide

/-- V-L2-Q-3. -/
theorem test_rdHeadData_beyond : (after (.rdHeadData 63) sFull).map (·.outcome) = some (returned 0) := by decide

/-- V-L2-CSR-2. -/
theorem test_rdReserved :
    (after (.rdReserved 0x02C) s0).map (·.outcome) = some { readData := some 0, conditions := [.csrReserved 0x02C] } := by
  decide

/-- R111 example. -/
theorem test_wrPreamble :
    (after (.wrPreamble 0x04030201) (inState .pre 2)).map (fun t => (t.pre.bytes, t.pstate, t.pcount))
      = some ([0x01, 0x02, 0x03, 0x04], .pre, 2) := by decide

/-- V-L2-CSR-5. -/
theorem test_wrCtrl_all :
    (after (.wrCtrl 0xF) { sFull with pcount := 3, cntOk := 2 }).map
        (fun t => (t.q, t.pstate, t.pcount, t.cntOk, t.outcome.conditions))
      = some ([], .pre, 0, 0, []) := by decide

/-- V-L2-Q-6: POP acts before CLEAR. -/
theorem test_wrCtrl_popEmpty :
    (after (.wrCtrl 3) s0).map (fun t => (t.q, t.outcome.conditions)) = some ([], [.popEmpty]) := by decide

/-- V-L2-CSR-9: the write clears IDLE_CNT. -/
theorem test_wrTimeout :
    (after (.wrTimeout 2) { inState .size 0 with timeout := 5, idleCnt := 4 }).map (fun t => (t.timeout, t.idleCnt, t.pstate))
      = some (2, 0, .size) := by decide

/-- V-L2-CSR-3. -/
theorem test_wrIgnored :
    (after (.wrIgnored 0x010 5) s0).map (fun t => (t.cntOk, t.outcome)) = some (0, raised [.csrReserved 0x010]) := by decide

/-- V-L2-RST-1. -/
theorem test_reset :
    (after .reset { sFull with timeout := 0x10, pcount := 2, pre := { p0 := 1, p1 := 2, p2 := 3, p3 := 4 } }).map
        (fun t => (t.q, t.timeout, t.pcount, t.pre.bytes)) = some ([], 0, 0, [0xAA, 0xBB, 0xCC, 0xDD]) := by decide

/-- The check value of 95_test_vectors.md: CHECKSUM("123456789") = 0xCBF43926. -/
theorem test_crc32_check_value :
    checksumOf .crc32IsoHdlc [0x31, 0x32, 0x33, 0x34, 0x35, 0x36, 0x37, 0x38, 0x39] = 0xCBF43926 := by decide +kernel

/-- Frame A of 95_test_vectors.md. -/
theorem test_encodeFrame :
    encodeFrame build s0.pre 0x02 0x05 [0x68, 0x69]
      = [0xAA, 0xBB, 0xCC, 0xDD, 0x02, 0x05, 0x02, 0x68, 0x69, 0x72, 0xB8, 0xF2, 0x11] := by decide +kernel

/-! ## Witnesses: for each obligation with hypotheses, a state and operands that meet them, at the boundaries of its clauses -/

theorem witness_DecodeEncodeAgree :
    (Instr.rdReserved 0x02C).wellFormed = true ∧ (Instr.wrIgnored 0x028 0xFFFF).wellFormed = true := by decide

theorem witness_DecodedWordsReencode : decode 0x300B00000000 = .ok .rdStatus := by decide

/-- Both branches: the least illegal KIND and the greatest legal one. -/
theorem witness_IllegalWordsAreRefused :
    (s0.withTrace [0x600000000000]).input = 0x600000000000 :: s0.input
      ∧ (s0.withTrace [0x500000000000]).input = 0x500000000000 :: s0.input
      ∧ (nextState (step (s0.withTrace [0x600000000000]))).isNone = true
      ∧ (nextState (step (s0.withTrace [0x500000000000]))).isSome = true := by decide

/-- Both clauses, where two rows of the map meet. -/
theorem witness_CsrDecodeFollowsTheMap :
    (0x30FC00000000#48).extractLsb' 44 4 = 0x3#4 ∧ (0x30FC00000000#48).extractLsb' 0 32 = 0#32
      ∧ (0x310000000000#48).extractLsb' 44 4 = 0x3#4 ∧ (0x310000000000#48).extractLsb' 0 32 = 0#32
      ∧ (0x402700000001#48).extractLsb' 44 4 = 0x4#4 ∧ (0x402800000001#48).extractLsb' 44 4 = 0x4#4 := by decide

theorem witness_StepRunsDecodedEvent :
    (s0.withTrace [0x1000000000AA]).input = 0x1000000000AA :: s0.input ∧ decode 0x1000000000AA = .ok (.rxByte 0xAA) := by
  decide

theorem witness_TraceRunsItsEventsInOrder :
    [0x1000000000AA, 0x000000000000].map decode = [Instr.rxByte 0xAA, Instr.tick].map .ok := by decide

/-- The clauses: the fourth match, an earlier match, a mismatch. -/
theorem witness_PreambleDetector :
    (inState .pre 3).pstate = .pre ∧ (inState .pre 3).pcount.toNat ≤ 3 ∧ s0.pstate = .pre ∧ s0.pcount.toNat ≤ 3
      ∧ (after (.rxByte 0xDD) (inState .pre 3)).map (fun t => (t.pstate, t.pcount)) = some (.addr, 0)
      ∧ (after (.rxByte 0xAA) s0).map (fun t => (t.pstate, t.pcount)) = some (.pre, 1)
      ∧ (after (.rxByte 0xAA) (inState .pre 3)).map (fun t => (t.pstate, t.pcount)) = some (.pre, 0) := by decide

theorem witness_OverlappingPreambleIsMissed :
    s0.pstate = .pre ∧ s0.pcount = 0 ∧ s0.pre = { p0 := 0xAA, p1 := 0xBB, p2 := 0xCC, p3 := 0xDD } := by decide

/-- The clauses: the destination, the source. -/
theorem witness_AddressBytes :
    (inState .addr 0).pstate = .addr ∧ (inState .addr 0).pcount.toNat ≤ 1 ∧ (inState .addr 1).pstate = .addr
      ∧ (inState .addr 1).pcount.toNat ≤ 1 ∧ (after (.rxByte 2) (inState .addr 0)).map (·.rxDst) = some 2
      ∧ (after (.rxByte 5) (inState .addr 1)).map (·.rxSrc) = some 5 := by decide

/-- The clauses: b = M is not clamped, b = M + 1 is, b = 0 goes to CKSUM. -/
theorem witness_LengthByteIsClamped :
    (inState .size 0).pstate = .size ∧ (inState .size 0).build.Legal
      ∧ (after (.rxByte 2) (inState .size 0)).map (fun t => (t.rxLen, t.pstate, t.cntLenClamp)) = some (2, .payload, 0)
      ∧ (after (.rxByte 3) (inState .size 0)).map (fun t => (t.rxLen, t.pstate, t.cntLenClamp)) = some (2, .payload, 1)
      ∧ (after (.rxByte 0) (inState .size 0)).map (fun t => (t.rxLen, t.pstate, t.cntLenClamp)) = some (0, .cksum, 0) := by
  decide

/-- The clauses: the last payload byte, and one before it. -/
theorem witness_PayloadByteIsStored :
    (sPay.Inv ∧ sPay.pstate = .payload ∧ sPay.pcount.toNat + 1 = sPay.rxLen.toNat)
      ∧ ({ sPay with pcount := 0 }.Inv ∧ { sPay with pcount := 0 }.pstate = .payload) :=
  ⟨⟨inv_of_check (by decide), by decide, by decide⟩, inv_of_check (by decide), by decide⟩

/-- The clauses: the first and the fourth checksum byte, in both orders. -/
theorem witness_ChecksumByteIsAssembled :
    sLast.pstate = .cksum ∧ sLast.pcount.toNat ≤ 3 ∧ (inState .cksum 0).pstate = .cksum
      ∧ (inState .cksum 0).pcount.toNat ≤ 3
      ∧ (after (.rxByte 0x72) (inState .cksum 0)).map (·.rxCk) = some 0x00000072
      ∧ (after (.rxByte 0x72) { inState .cksum 0 with build := buildBe }).map (·.rxCk) = some 0x72000000 := by decide

/-- The clauses: a match with room, a match without room, a mismatch (R92). -/
theorem witness_IntegrityCheckOutcome :
    sLast.pstate = .cksum ∧ sLast.pcount = 3 ∧ sLastFull.pstate = .cksum ∧ sLastFull.pcount = 3
      ∧ (after (.rxByte 0xFF) sLast).map (fun t => (t.q.length, t.outcome.conditions)) = some (1, [])
      ∧ (after (.rxByte 0xFF) sLastFull).map (fun t => (t.q, t.outcome.conditions)) = some ([hi], [.queueFullDrop])
      ∧ (after (.rxByte 0xFE) sLastFull).map (fun t => (t.q, t.outcome.conditions))
          = some ([hi], [.ckMismatch 0xFE41D912 0xFF41D912]) := by decide +kernel

/-- A length byte of 0, and one above M. -/
theorem witness_FrameTakesInItsLength :
    ((inState .addr 0).Inv ∧ (inState .addr 0).pstate = .addr ∧ (inState .addr 0).pcount = 0)
      ∧ (List.replicate 4 0x00#8).length = min (0x00#8).toNat build.maxPayload + 4
      ∧ (List.replicate 6 0x00#8).length = min (0xFF#8).toNat build.maxPayload + 4 :=
  ⟨⟨inv_of_check (by decide), by decide, by decide⟩, by decide, by decide⟩

/-- With room and with a full queue; an empty payload and one of M bytes; a checksum that matches, FF41D912, and any other. -/
theorem witness_FrameIsQueuedIffItsChecksumMatches :
    (s0.Inv ∧ s0.pstate = .pre ∧ s0.pcount = 0) ∧ (sFull.Inv ∧ sFull.pstate = .pre ∧ sFull.pcount = 0)
      ∧ ([] : List Byte).length ≤ s0.build.maxPayload ∧ [0x68#8, 0x69#8].length ≤ s0.build.maxPayload
      ∧ checksumOf s0.build.checksum [0x00, 0x00, 0x00] = 0xFF41D912 :=
  ⟨⟨inv_of_check (by decide), by decide, by decide⟩, ⟨inv_of_check (by decide), by decide, by decide⟩, by decide, by decide,
    by decide +kernel⟩

theorem witness_room : ∀ n, s0.build.queueDepth = .bounded n → s0.q.length < n := by
  intro n h
  cases h
  decide

theorem witness_FrameRoundTrip :
    s0.Inv ∧ s0.pstate = .pre ∧ s0.pcount = 0 ∧ [0x68#8, 0x69#8].length ≤ s0.build.maxPayload
      ∧ ∀ n, s0.build.queueDepth = .bounded n → s0.q.length < n :=
  ⟨inv_of_check (by decide), by decide, by decide, by decide, witness_room⟩

/-- Frame Z but its last byte, with a byte-less cycle, a transport error, a read, a POP and a TIMEOUT write between its bytes. -/
def beforeZ : List Instr :=
  [.rxByte 0xAA, .tick, .rxByte 0xBB, .rxByte 0xCC, .rdStatus, .rxByte 0xDD, .rxByte 0x00, .wrTimeout 9, .rxByte 0x00,
    .rxError, .rxByte 0x00, .rxByte 0x12, .wrCtrl 1, .rxByte 0xD9, .rxByte 0x41]

/-- A run whose conditions are all but TIMEOUT_RESYNC, as a computation. -/
theorem noTimeoutFired_of_check {is : List Instr} {s : State}
    (h : (nextState (runEvents is s)).all (fun r => r.2.all fun o => o.conditions.all fun c => decide (c.code ≠ 7)) = true) :
    ∀ u obs, runEvents is s = .next (u, obs) → noTimeoutFired obs := by
  intro u obs e
  rw [e] at h
  simpa [nextState, noTimeoutFired, List.all_eq_true] using h

theorem witness_FrameRoundTripInterleaved :
    s0.Inv ∧ s0.pstate = .pre ∧ s0.pcount = 0 ∧ ([] : List Byte).length ≤ s0.build.maxPayload
      ∧ (∀ n, s0.build.queueDepth = .bounded n → s0.q.length < n)
      ∧ (beforeZ.filterMap deliveredByte) ++ [0xFF] = encodeFrame s0.build s0.pre 0x00 0x00 []
      ∧ (∀ i ∈ beforeZ, allowedInFrame i = true)
      ∧ (∀ u obs, runEvents beforeZ s0 = .next (u, obs) → noTimeoutFired obs) :=
  ⟨inv_of_check (by decide), by decide, by decide, by decide, witness_room, by decide +kernel, by decide,
    noTimeoutFired_of_check (by decide +kernel)⟩

/-- The noise 00 11 of V-L1-2. -/
theorem witness_NoiseLeavesNoTrace :
    (s0.Inv ∧ s0.pstate = .pre ∧ s0.pcount = 0)
      ∧ (∃ u obs, runEvents ([0x00, 0x11].map Instr.rxByte) s0 = .next (u, obs) ∧ u.pstate = .pre ∧ u.pcount = 0 ∧ u.q = s0.q)
      ∧ [0x68#8, 0x69#8].length ≤ s0.build.maxPayload ∧ ∀ n, s0.build.queueDepth = .bounded n → s0.q.length < n :=
  ⟨⟨inv_of_check (by decide), by decide, by decide⟩, ⟨_, _, rfl, by decide, by decide, by decide⟩, by decide, witness_room⟩

/-- A toy CHECKSUM with the law of R10: the number of bytes. -/
theorem witness_EveryChecksumIsAFold :
    ∀ a b : List Byte, BitVec.ofNat 32 a.length + BitVec.ofNat 32 b.length = BitVec.ofNat 32 (a ++ b).length := by
  intro a b
  rw [List.length_append, BitVec.ofNat_add]

/-- The clauses, at TIMEOUT = 1 and 2: no byte-less cycle, one below TIMEOUT, and TIMEOUT of them. -/
theorem witness_TimeoutFiresOnTheNthCycle :
    { inState .size 0 with timeout := 1 }.timeout ≠ 0 ∧ { inState .size 0 with timeout := 2 }.timeout ≠ 0
      ∧ (inState .size 0).idleCnt = 0 ∧ ¬((inState .size 0).pstate = .pre ∧ (inState .size 0).pcount = 0)
      ∧ (∀ i ∈ [Instr.tick, Instr.rxError], byteless i = true)
      ∧ ([] : List Instr).length < (1#32).toNat ∧ [Instr.tick].length = (1#32).toNat
      ∧ [Instr.tick, Instr.rxError].length = (2#32).toNat := by decide

/-- An empty queue, and one whose head ends in the middle of a word. -/
theorem witness_HeadDataRead : s0.Inv ∧ s0.q = [] ∧ sFull.Inv ∧ sFull.q = [hi] :=
  ⟨inv_of_check (by decide), by decide, inv_of_check (by decide), by decide⟩

theorem witness_PopmsgReturnsTheHead : s0.Inv ∧ sFull.Inv := ⟨inv_of_check (by decide), inv_of_check (by decide)⟩

/-- A block with room for two messages. -/
def sTwo : State := State.initial { build with queueDepth := .bounded 2 }

/-- Two frames with their destination, source and payload. -/
def twoFrames : List (Byte × Byte × List Byte) := [(0x02, 0x05, [0x68, 0x69]), (0x00, 0x00, [])]

/-- As many frames as there is room for. -/
theorem witness_FramesPopInOrder :
    sTwo.Inv ∧ sTwo.pstate = .pre ∧ sTwo.pcount = 0 ∧ sTwo.q = []
      ∧ (∀ f ∈ twoFrames, f.2.2.length ≤ sTwo.build.maxPayload)
      ∧ ∀ n, sTwo.build.queueDepth = .bounded n → twoFrames.length ≤ n :=
  ⟨inv_of_check (by decide), by decide, by decide, by decide, by decide, by
    intro n h
    cases h
    decide⟩

/-- Each way Q changes, and an event that leaves it. -/
theorem witness_QueueHasOneProducerAndOneConsumer :
    (after .tick sFull).map (·.q) = some [hi]
      ∧ (after (.rxByte 0xFF) sLast).map (·.q) = some [{ src := 0, size := 0, payload := [] }]
      ∧ (after (.wrCtrl 1) sFull).map (·.q) = some [] ∧ (after (.wrCtrl 2) sFull).map (·.q) = some []
      ∧ (after .reset sFull).map (·.q) = some [] := by decide +kernel

theorem witness_HeadIsStableUntilTheHostActs :
    sFull.q = hi :: [] ∧ (∀ i ∈ [Instr.rxByte 0xAA, Instr.wrCtrl 4], i ≠ .reset ∧ removesMessages i = false)
      ∧ ∃ t obs, runEvents [Instr.rxByte 0xAA, Instr.wrCtrl 4] sFull = .next (t, obs) :=
  ⟨by decide, by decide, _, _, rfl⟩

theorem witness_PreambleReadsBackWhatWasWritten : ∃ t, exec (.wrPreamble 0x7E7E7E7E) s0 = .next t := ⟨_, rfl⟩

/-- An empty queue and a full one. -/
theorem witness_StatusRead : s0.Inv ∧ s0.avail = false ∧ s0.full = false ∧ sFull.Inv ∧ sFull.avail = true ∧ sFull.full = true :=
  ⟨inv_of_check (by decide), by decide, by decide, inv_of_check (by decide), by decide, by decide⟩

/-- The boundaries of M and QD, and UNBOUNDED. -/
theorem witness_ParamsRead :
    (State.initial { build with maxPayload := 1, queueDepth := .bounded 255 }).build.Legal
      ∧ (State.initial { build with maxPayload := 255, queueDepth := .bounded 1 }).build.Legal
      ∧ (State.initial buildBe).build.Legal := by decide

theorem witness_BuildNeverChanges : ∃ t, exec .reset sFull = .next t := ⟨_, rfl⟩

theorem witness_ReadsHaveNoSideEffects : eventClass (.rdHeadData 0) = .csrRead := rfl

/-- Both clauses: a write that leaves the parser alone, and RESYNC. -/
theorem witness_HostCannotWriteTheParser :
    eventClass (.wrCtrl 4) = .csrWrite ∧ eventClass .rdStatus = .csrRead
      ∧ (after (.wrCtrl 4) sPay).map (fun t => (t.pstate, t.pcount)) = some (.pre, 0)
      ∧ (after (.wrCtrl 3) sPay).map (fun t => (t.pstate, t.pcount)) = some (.payload, 1)
      ∧ (after .rdStatus sPay).map (fun t => (t.pstate, t.pcount)) = some (.payload, 1) := by decide

/-- Invariants and a step, for each kind of condition of RX_BYTE. -/
theorem witness_ConditionsOfEachEvent :
    (s0.Inv ∧ (inState .size 0).Inv ∧ sLast.Inv ∧ sLastFull.Inv)
      ∧ (after (.rxByte 0x55) s0).map (·.outcome.conditions) = some [.syncMiss 0x55 0]
      ∧ (after (.rxByte 3) (inState .size 0)).map (·.outcome.conditions) = some [.lenClamped 3]
      ∧ (after (.rxByte 0) sLast).map (·.outcome.conditions) = some [.ckMismatch 0x0041D912 0xFF41D912]
      ∧ (after (.rxByte 0xFF) sLastFull).map (·.outcome.conditions) = some [.queueFullDrop] :=
  ⟨⟨inv_of_check (by decide), inv_of_check (by decide), inv_of_check (by decide), inv_of_check (by decide)⟩,
    by decide +kernel⟩

/-- Each counter moving by one. -/
theorem witness_CountersCountTheirConditions :
    eventClass (.rxByte 0) = .bytePort ∧ eventClass .tick = .bytePort
      ∧ (after (.rxByte 3) (inState .size 0)).map (·.cntLenClamp) = some 1
      ∧ (after (.rxByte 0) sLast).map (·.cntCrcErr) = some 1 ∧ (after (.rxByte 0xFF) sLastFull).map (·.cntQDrop) = some 1
      ∧ (after .tick { inState .pre 1 with timeout := 1 }).map (·.cntTimeout) = some 1
      ∧ (after (.rxByte 0xFF) sLast).map (·.cntOk) = some 1 := by decide +kernel

theorem witness_MsgAvailIsTheAvailLevel :
    (after .tick s0).map (·.observation.msgAvail) = some false ∧ (after .tick sFull).map (·.observation.msgAvail) = some true := by
  decide

theorem witness_ResetSatisfiesTheInvariants : build.Legal ∧ buildBe.Legal ∧ Build.default.Legal := by decide

theorem witness_StepKeepsTheInvariants :
    (sPay.withTrace [0x100000000069]).Inv ∧ ∃ t, step (sPay.withTrace [0x100000000069]) = .next t :=
  ⟨inv_of_check (by decide), _, rfl⟩

theorem witness_ReachableStatesSatisfyTheInvariants :
    build.Legal ∧ ∃ t obs, runSteps 2 ((State.initial build).withTrace [0x1000000000AA, 0x000000000000]) = .next (t, obs) :=
  ⟨by decide, _, _, rfl⟩

/-- Two states that differ in every stale register. -/
theorem witness_StaleRegistersAreUnobservable :
    (s0.withTrace [0x1000000000AA]).Inv
      ∧ ({ s0 with rxDst := 1, rxSrc := 2, rxLen := 1, rxBuf := [3, 4], rxCk := 5 }.withTrace [0x1000000000AA]).Inv
      ∧ SameLive (s0.withTrace [0x1000000000AA])
          ({ s0 with rxDst := 1, rxSrc := 2, rxLen := 1, rxBuf := [3, 4], rxCk := 5 }.withTrace [0x1000000000AA])
      ∧ ∃ t, step (s0.withTrace [0x1000000000AA]) = .next t :=
  ⟨inv_of_check (by decide), inv_of_check (by decide),
    ⟨rfl, rfl, by decide, by decide, by decide, nofun, nofun, nofun, rfl, rfl, rfl, rfl, rfl, rfl, rfl, rfl, rfl, rfl, rfl, rfl⟩,
    _, rfl⟩

/-- The addresses at the boundaries of the two fallback rows. -/
theorem witness_ReservedAccesses :
    reservedAddr 0x02C = true ∧ reservedAddr 0x0FF = true ∧ reservedAddr 0x200 = true ∧ writableAddr 0x008 = false
      ∧ writableAddr 0x028 = false ∧ writableAddr 0xFFF = false := by decide

/-- The clauses at the boundaries of R8 and R9. -/
theorem witness_ConstructionRefusesIllegalParameters :
    (nextState (construct { build with maxPayload := 0 })).isNone = true
      ∧ (nextState (construct { build with maxPayload := 256 })).isNone = true
      ∧ (nextState (construct { build with queueDepth := .bounded 0 })).isNone = true
      ∧ (nextState (construct { build with queueDepth := .bounded 256 })).isNone = true
      ∧ (nextState (construct { build with maxPayload := 255, queueDepth := .bounded 255 })).isSome = true
      ∧ (nextState (construct { build with maxPayload := 1, queueDepth := .bounded 1 })).isSome = true := by decide

/-- The clauses: with reset, where a read returns 0; without it, no access, a read, and a write (V-L2-CSR-7: RESYNC, then the
byte counts as P[0]). -/
theorem witness_CycleAppliesItsEventsInOrder :
    (nextState (runCycle { rst := true, csr := some (.read 0x000), port := .byte 0xAA } sFull)).map
          (fun r => (r.readData, r.state.q, r.state.pcount)) = some (some 0, [], 0)
      ∧ (nextState (runCycle { rst := false, csr := none, port := .byte 0xAA } s0)).map (·.state.pcount) = some 1
      ∧ (nextState (runCycle { rst := false, csr := some (.read 0x008), port := .byte 0xAA } s0)).map
          (fun r => (r.readData, r.state.pcount)) = some (some 0, 1)
      ∧ (nextState (runCycle { rst := false, csr := some (.write 0x004 4), port := .byte 0xAA } sPay)).map
          (fun r => (r.readData, r.state.pstate, r.state.pcount)) = some (none, .pre, 1) := by decide

theorem witness_PopFreesASlotForTheSameCycle :
    sLastFull.pstate = .cksum ∧ sLastFull.pcount = 3 ∧ sLastFull.q = hi :: []
      ∧ sLastFull.build.queueDepth = .bounded sLastFull.q.length
      ∧ (after (.rxByte 0xFF) sLastFull).map (·.outcome.conditions) = some [.queueFullDrop] := by decide +kernel

/-- Two instances with windows next to each other, the first with an event to take. -/
def twoBlocks : List Block :=
  [{ csrBase := 0x1000, state := s0.withTrace [0x1000000000AA] }, { csrBase := 0x2000, state := sFull }]

theorem witness_InstancesShareNoState :
    ∃ t, step (twoBlocks[(0 : Fin 2)]).state = .next t ∧ ∃ sys', stepInstance twoBlocks (0 : Fin 2) = .next sys' :=
  ⟨_, rfl, _, rfl⟩

/-- Windows that touch, and the last address of one and the first of the other. -/
theorem witness_AccessReachesTheInstanceOfItsWindow :
    windowsDisjoint twoBlocks
      ∧ (deliverAccess twoBlocks (.read 0x1FFF)).map (·.state.input) = [[0x3FFF00000000, 0x1000000000AA], []]
      ∧ (deliverAccess twoBlocks (.write 0x2000 0x04030201)).map (·.state.input)
          = [[0x1000000000AA], [0x400004030201]] := by decide

end Sys2Proof.Tests
end

section
/-! Proofs/Invariants.lean: the invariants of 10_state.md R35 hold at reset and every step keeps them. One lemma for each
operation of the machine, in the order of Machine/Ops.lean, Machine/Csr.lean and Machine/Receive.lean; then the events, the
step, and the runs (O53). -/

namespace Sys2Proof.Machine

/-! ## Runs and steps, taken apart -/

@[simp] theorem runSteps_zero (s : State) : runSteps 0 s = .next (s, []) := rfl

theorem runSteps_succ (n : Nat) (s : State) :
    runSteps (n + 1) s = andThen (step s) fun t => andThen (runSteps n t) fun r => .next (r.1, t.observation :: r.2) := rfl

theorem exec_reset (s : State) :
    exec .reset s = .next { State.initial s.build with input := s.input } := rfl

/-- A step that gives a next state has applied the event of the trace's first word (R73). -/
theorem step_eq_next {s t : State} (h : step s = .next t) :
    ∃ w rest i, s.input = w :: rest ∧ decode w = .ok i ∧ exec i { s with input := rest } = .next t := by
  unfold step fetch at h
  cases hin : s.input with
  | nil => simp [hin] at h
  | cons w rest =>
    cases hw : decode w with
    | error why => simp [hin, hw] at h
    | ok i =>
      simp only [hin, hw] at h
      exact ⟨w, rest, i, rfl, hw, h⟩

/-- What every step keeps, every run keeps. -/
theorem runSteps_keeps {P : State → Prop} (hstep : ∀ s t, P s → step s = .next t → P t) (n : Nat) {s t : State}
    {obs : List Observation} (hs : P s) (h : runSteps n s = .next (t, obs)) : P t := by
  induction n generalizing s obs with
  | zero => cases h; exact hs
  | succ n ih =>
    obtain ⟨u, hu, h⟩ := andThen_eq_next (runSteps_succ n s ▸ h)
    obtain ⟨⟨v, obs'⟩, hv, h⟩ := andThen_eq_next h
    cases h
    exact ih (hstep s u hs hu) hv

/-! ## The parser's position -/

/-- R35's bounds on PCOUNT in each parser state. -/
def PState.Bounds (len k : Byte) : PState → Prop
  | .pre => k.toNat ≤ 3
  | .addr => k.toNat ≤ 1
  | .size => k = 0
  | .payload => 1 ≤ len.toNat ∧ k.toNat < len.toNat
  | .cksum => k.toNat ≤ 3

namespace State.Inv

variable {s : State}

/-- The invariants speak of the parser's position only through its bounds. -/
theorem bounds (h : s.Inv) : s.pstate.Bounds s.rxLen s.pcount := by
  cases hp : s.pstate with
  | pre => exact h.preBound hp
  | addr => exact h.addrBound hp
  | size => exact h.sizeBound hp
  | payload => exact h.payloadBound hp
  | cksum => exact h.cksumBound hp

theorem moveTo (h : s.Inv) (p : PState) (k : Byte) (hp : p.Bounds s.rxLen k) : { s with pstate := p, pcount := k }.Inv :=
  { h with
    preBound := by rintro rfl; exact hp
    addrBound := by rintro rfl; exact hp
    sizeBound := by rintro rfl; exact hp
    payloadBound := by rintro rfl; exact hp
    cksumBound := by rintro rfl; exact hp }

/-- A move within the parser's state. -/
theorem countTo (h : s.Inv) (k : Byte) (hk : s.pstate.Bounds s.rxLen k) : { s with pcount := k }.Inv :=
  h.moveTo s.pstate k hk

/-! ## Updates of what the invariants do not speak of -/

theorem beginEvent (h : s.Inv) : s.beginEvent.Inv := { h with }

theorem raise (h : s.Inv) (c : Condition) : (s.raise c).Inv := { h with }

theorem answer (h : s.Inv) (v : Word32) : (s.answer v).Inv := { h with }

theorem clearCounters (h : s.Inv) : s.clearCounters.Inv := { h with }

theorem withInput (h : s.Inv) (ws : List TraceWord) : { s with input := ws }.Inv := { h with }

theorem takeCkByte (h : s.Inv) (b : Byte) : (s.takeCkByte b).Inv := { h with }

theorem dropOnFull (h : s.Inv) : s.dropOnFull.Inv := { h with }

theorem dropOnMismatch (h : s.Inv) : s.dropOnMismatch.Inv := { h with }

/-! ## The timer (R138) -/

theorem setTimer (h : s.Inv) (v : Word32) : { s with timeout := v, idleCnt := 0 }.Inv :=
  { h with
    idleBound := fun hv => by change v ≠ 0 at hv; bv_omega
    idleOff := fun _ => rfl }

theorem restartIdle (h : s.Inv) : s.restartIdle.Inv := h.setTimer s.timeout

theorem toPre (h : s.Inv) : s.toPre.Inv := h.moveTo .pre 0 (Nat.zero_le 3)

theorem resync (h : s.Inv) : s.resync.Inv := h.toPre.restartIdle

theorem fireTimeout (h : s.Inv) : s.fireTimeout.Inv := { (h.raise (.timeoutResync s.pstate s.pcount)).resync with }

theorem timerStep (h : s.Inv) : s.timerStep.Inv := by
  obtain ⟨-, e⟩ | ⟨-, -, -, e⟩ | ⟨hon, -, hidle, e⟩ := s.timerStep_spec
  all_goals rw [e]
  case inl => exact h.restartIdle
  case inr.inl => exact h.fireTimeout
  case inr.inr =>
    exact { h with
      idleBound := fun _ => by show (s.idleCnt + 1).toNat < s.timeout.toNat; bv_omega
      idleOff := fun hoff => absurd hoff hon }

/-! ## The queue (R100 to R104) -/

/-- A shorter queue of the same messages. -/
theorem dropMessages (h : s.Inv) {q : List Message} (hq : q <:+ s.q) : { s with q := q }.Inv :=
  { h with
    queueBound := fun n hn => hq.length_le.trans (h.queueBound n hn)
    messages := fun m hm => h.messages m (hq.subset hm) }

theorem pop (h : s.Inv) : s.pop.Inv := by
  obtain ⟨-, e⟩ | ⟨m, rest, hq, e⟩ := s.pop_spec
  · exact e ▸ h.raise .popEmpty
  · exact e ▸ h.dropMessages (hq ▸ List.suffix_cons m rest)

theorem clear (h : s.Inv) : s.clear.Inv := h.dropMessages List.nil_suffix

/-- The frame in flight makes a message of RX_LEN bytes, which RX_BUF holds (R27, R28). -/
theorem length_rxPayload (h : s.Inv) : s.rxPayload.length = s.rxLen.toNat := by
  rw [State.rxPayload, List.length_take, h.bufLength]
  exact Nat.min_eq_left h.lenBound

theorem acceptFrame (h : s.Inv) (hroom : s.hasRoom = true) : s.acceptFrame.Inv :=
  { h with
    queueBound := fun n hn => by
      have hlt := s.hasRoom_iff.1 hroom n hn
      simpa using hlt
    messages := fun m hm => by
      obtain hm | rfl : m ∈ s.q ∨ m = s.rxMessage := by simpa using hm
      · exact h.messages m hm
      · exact ⟨h.length_rxPayload, h.lenBound⟩ }

theorem checkFrame (h : s.Inv) : s.checkFrame.Inv := by
  obtain ⟨-, hroom, e⟩ | ⟨-, -, e⟩ | ⟨-, e⟩ := s.checkFrame_spec
  · exact e ▸ (h.acceptFrame hroom).toPre
  · exact e ▸ h.dropOnFull.toPre
  · exact e ▸ h.dropOnMismatch.toPre

/-! ## The CTRL commands (R112) -/

/-- A command that its bit of CTRL selects or leaves out. -/
theorem select (c : Bool) {t : State} (ht : t.Inv) (h : s.Inv) : (if c then t else s).Inv := by
  cases c with
  | true => exact ht
  | false => exact h

theorem runCommands (h : s.Inv) (v : Word32) : (s.runCommands v).Inv := by
  have hpop := select (v.getLsbD 0) h.pop h
  have hclear := select (v.getLsbD 1) hpop.clear hpop
  have hresync := select (v.getLsbD 2) hclear.resync hclear
  exact select (v.getLsbD 3) hresync.clearCounters hresync

/-! ## The parser (R85 to R92) -/

theorem parse_pre (h : s.Inv) (b : Byte) (hp : s.pstate = .pre) : (s.parse b).Inv := by
  have hcount := h.preBound hp
  obtain ⟨-, -, e⟩ | ⟨-, h3, e⟩ | ⟨-, e⟩ := s.parse_pre b hp
  · exact e ▸ h.moveTo .addr 0 (Nat.zero_le 1)
  · have hnext : (s.pcount + 1).toNat ≤ 3 := by bv_omega
    exact e ▸ h.countTo (s.pcount + 1) (hp ▸ hnext)
  · exact e ▸ (h.raise _).countTo 0 (by simp [hp, PState.Bounds])

theorem parse_addr (h : s.Inv) (b : Byte) (hp : s.pstate = .addr) : (s.parse b).Inv := by
  obtain ⟨-, e⟩ | ⟨-, e⟩ := s.parse_addr b hp
  · have hdst : { s with rxDst := b }.Inv := { h with }
    exact e ▸ hdst.countTo 1 (by simp [hp, PState.Bounds])
  · have hsrc : { s with rxSrc := b }.Inv := { h with }
    exact e ▸ hsrc.moveTo .size 0 rfl

theorem setLength (h : s.Inv) (b : Byte) (hp : s.pstate = .size) :
    { s with rxLen := clampLen s.build.maxPayload b }.Inv :=
  { h with
    payloadBound := fun hpay => nomatch hp.symm.trans hpay
    lenBound := by
      show (clampLen s.build.maxPayload b).toNat ≤ s.build.maxPayload
      rw [clampLen_toNat]
      exact Nat.min_le_right .. }

theorem takeLength (h : s.Inv) (b : Byte) (hp : s.pstate = .size) : (s.takeLength b).Inv := by
  obtain ⟨-, e⟩ | ⟨-, e⟩ := s.takeLength_spec b
  · exact e ▸ { h.setLength b hp with }
  · exact e ▸ h.setLength b hp

theorem leaveSize (h : s.Inv) : s.leaveSize.Inv := by
  refine h.moveTo _ 0 ?_
  split
  · exact Nat.zero_le 3
  · next hlen =>
    have hpos : 0 < s.rxLen.toNat := by bv_omega
    exact ⟨hpos, hpos⟩

theorem setBuf (h : s.Inv) (i : Nat) (b : Byte) : { s with rxBuf := s.rxBuf.set i b }.Inv :=
  { h with bufLength := List.length_set.trans h.bufLength }

theorem parse_payload (h : s.Inv) (b : Byte) (hp : s.pstate = .payload) : (s.parse b).Inv := by
  obtain ⟨hlen, hcount⟩ := h.payloadBound hp
  obtain ⟨-, e⟩ | ⟨hmore, e⟩ := s.parse_payload b hp
  · exact e ▸ (h.setBuf s.pcount.toNat b).moveTo .cksum 0 (Nat.zero_le 3)
  · have hnext : (s.pcount + 1).toNat < s.rxLen.toNat := by bv_omega
    exact e ▸ (h.setBuf s.pcount.toNat b).countTo (s.pcount + 1) (by rw [hp]; exact ⟨hlen, hnext⟩)

theorem parse_cksum (h : s.Inv) (b : Byte) (hp : s.pstate = .cksum) : (s.parse b).Inv := by
  obtain ⟨hlt, e⟩ | ⟨-, e⟩ := s.parse_cksum b hp
  · have hnext : (s.pcount + 1).toNat ≤ 3 := by bv_omega
    exact e ▸ (h.takeCkByte b).countTo (s.pcount + 1) (by rw [State.takeCkByte_pstate, hp]; exact hnext)
  · exact e ▸ (h.takeCkByte b).checkFrame

theorem parse (h : s.Inv) (b : Byte) : (s.parse b).Inv := by
  cases hp : s.pstate with
  | pre => exact h.parse_pre b hp
  | addr => exact h.parse_addr b hp
  | size => exact s.parse_size b hp ▸ (h.takeLength b hp).leaveSize
  | payload => exact h.parse_payload b hp
  | cksum => exact h.parse_cksum b hp

end State.Inv

/-! ## Reset, the events, the step -/

/-- The reset state of every legal build satisfies the invariants (R147). -/
theorem State.initial_inv {b : Build} (hb : b.Legal) : (State.initial b).Inv where
  legal := hb
  preBound _ := Nat.zero_le 3
  addrBound := nofun
  sizeBound := nofun
  payloadBound := nofun
  cksumBound := nofun
  lenBound := Nat.zero_le _
  bufLength := List.length_replicate
  queueBound _ _ := Nat.zero_le _
  messages := nofun
  idleBound h := absurd rfl h
  idleOff _ := rfl

/-- Every event completes in a state that satisfies the invariants. -/
theorem exec_next_inv (i : Instr) {s : State} (h : s.Inv) : ∃ t, exec i s = .next t ∧ t.Inv := by
  have hs := h.beginEvent
  cases i with
  | tick => exact ⟨_, exec_tick s, hs.timerStep⟩
  | rxByte b => exact ⟨_, exec_rxByte s b, (hs.parse b).restartIdle⟩
  | rxError => exact ⟨_, exec_rxError s, (hs.raise _).timerStep⟩
  | rdPreamble => exact ⟨_, exec_rdPreamble s, hs.answer _⟩
  | rdCtrl => exact ⟨_, exec_rdCtrl s, hs.answer _⟩
  | rdStatus => exact ⟨_, exec_rdStatus s, hs.answer _⟩
  | rdHeadInfo => exact ⟨_, exec_rdHeadInfo s, hs.answer _⟩
  | rdCntOk => exact ⟨_, exec_rdCntOk s, hs.answer _⟩
  | rdCntCrcErr => exact ⟨_, exec_rdCntCrcErr s, hs.answer _⟩
  | rdCntQDrop => exact ⟨_, exec_rdCntQDrop s, hs.answer _⟩
  | rdCntLenClamp => exact ⟨_, exec_rdCntLenClamp s, hs.answer _⟩
  | rdCntTimeout => exact ⟨_, exec_rdCntTimeout s, hs.answer _⟩
  | rdTimeout => exact ⟨_, exec_rdTimeout s, hs.answer _⟩
  | rdParams => exact ⟨_, exec_rdParams s, hs.answer _⟩
  | rdHeadData k => exact ⟨_, exec_rdHeadData s k, hs.answer _⟩
  | rdReserved a => exact ⟨_, exec_rdReserved s a, (hs.raise _).answer _⟩
  | wrPreamble v => exact ⟨_, exec_wrPreamble s v, { hs with }⟩
  | wrCtrl v => exact ⟨_, exec_wrCtrl s v, hs.runCommands v⟩
  | wrTimeout v => exact ⟨_, exec_wrTimeout s v, hs.setTimer v⟩
  | wrIgnored a v => exact ⟨_, exec_wrIgnored s a v, hs.raise _⟩
  | reset => exact ⟨_, exec_reset s, (State.initial_inv h.legal).withInput _⟩

/-- Every step keeps the invariants of R35. -/
theorem step_preserves_inv (s t : State) (h : s.Inv) (hstep : step s = .next t) : t.Inv := by
  obtain ⟨w, rest, i, -, -, hexec⟩ := step_eq_next hstep
  obtain ⟨u, hu, hinv⟩ := exec_next_inv i (h.withInput rest)
  cases hu.symm.trans hexec
  exact hinv

/-- Settles O53, by induction on the number of steps: the reset state satisfies the invariants, delivering a trace leaves them
alone, and every step keeps them. -/
theorem reachableStatesSatisfyTheInvariants : Obligations.ReachableStatesSatisfyTheInvariants := by
  intro b ws n t obs hb hrun
  have hstart : ((State.initial b).withTrace ws).Inv := (State.initial_inv hb).withInput _
  exact runSteps_keeps step_preserves_inv n hstart hrun

end Sys2Proof.Machine
end

section
/-! Proofs/Cycle.lean: what an event does with the two fields of the model's own, and the clock cycle (20_memory.md R56, R60).
A CSR read replaces the outcome and nothing else (O44). Every other event starts a new outcome and then runs operations that
neither consult nor change the trace still to come and the value read. So a trace in front of the block runs as its events,
and a cycle is the run of its one or two events (O56). -/

namespace Sys2Proof.Machine

/-! ## CSR reads (R56) -/

/-- The value and the conditions of a CSR read do not depend on the trace or on the last outcome, and the read replaces that
outcome alone. -/
theorem exec_of_csrRead {i : Instr} (hi : eventClass i = .csrRead) (s : State) :
    ∃ v cs, ∀ ws o, exec i { s with input := ws, outcome := o } =
      .next { s with input := ws, outcome := { readData := some v, conditions := cs } } := by
  cases i with
  | rdPreamble => exact ⟨s.pre.word, [], fun _ _ => rfl⟩
  | rdCtrl => exact ⟨0, [], fun _ _ => rfl⟩
  | rdStatus => exact ⟨s.statusWord, [], fun _ _ => rfl⟩
  | rdHeadInfo => exact ⟨s.headInfoWord, [], fun _ _ => rfl⟩
  | rdCntOk => exact ⟨s.cntOk, [], fun _ _ => rfl⟩
  | rdCntCrcErr => exact ⟨s.cntCrcErr, [], fun _ _ => rfl⟩
  | rdCntQDrop => exact ⟨s.cntQDrop, [], fun _ _ => rfl⟩
  | rdCntLenClamp => exact ⟨s.cntLenClamp, [], fun _ _ => rfl⟩
  | rdCntTimeout => exact ⟨s.cntTimeout, [], fun _ _ => rfl⟩
  | rdTimeout => exact ⟨s.timeout, [], fun _ _ => rfl⟩
  | rdParams => exact ⟨paramsWord s.build, [], fun _ _ => rfl⟩
  | rdHeadData k => exact ⟨s.headDataWord k.toNat, [], fun _ _ => rfl⟩
  | rdReserved a => exact ⟨0, [.csrReserved a], fun _ _ => rfl⟩
  | tick | rxByte | rxError | wrPreamble | wrCtrl | wrTimeout | wrIgnored | reset => cases hi

/-- Settles O44: the read replaces the outcome alone, by the same one each time. -/
theorem readsHaveNoSideEffects : Obligations.ReadsHaveNoSideEffects := by
  intro i s hi
  obtain ⟨v, cs, hread⟩ := exec_of_csrRead hi s
  exact ⟨_, v, hread s.input s.outcome, rfl, rfl, rfl, hread s.input _⟩

/-! ## Operations that ignore the trace and the value read -/

/-- The state with another trace to come and another value read by the current event. -/
def State.withInputAndRead (s : State) (ws : List TraceWord) (r : Option Word32) : State :=
  { s with input := ws, outcome := { s.outcome with readData := r } }

@[simp] theorem State.withInputAndRead_pstate (s : State) (ws : List TraceWord) (r : Option Word32) :
    (s.withInputAndRead ws r).pstate = s.pstate := rfl

@[simp] theorem State.withInputAndRead_q (s : State) (ws : List TraceWord) (r : Option Word32) :
    (s.withInputAndRead ws r).q = s.q := rfl

/-- The operation neither consults nor changes the trace to come and the value read. -/
def IgnoresInputAndRead (f : State → State) : Prop :=
  ∀ s ws r, f (s.withInputAndRead ws r) = (f s).withInputAndRead ws r

namespace IgnoresInputAndRead

variable {f g : State → State}

/-- Setting both fields to what they are tells that the operation leaves them. -/
theorem eq_withInputAndRead (hf : IgnoresInputAndRead f) (s : State) :
    f s = (f s).withInputAndRead s.input s.outcome.readData :=
  hf s s.input s.outcome.readData

theorem input_eq (hf : IgnoresInputAndRead f) (s : State) : (f s).input = s.input :=
  congrArg (·.input) (hf.eq_withInputAndRead s)

theorem readData_eq (hf : IgnoresInputAndRead f) (s : State) : (f s).outcome.readData = s.outcome.readData :=
  congrArg (·.outcome.readData) (hf.eq_withInputAndRead s)

theorem comp (hg : IgnoresInputAndRead g) (hf : IgnoresInputAndRead f) : IgnoresInputAndRead fun s => g (f s) :=
  fun s ws r => (congrArg g (hf s ws r)).trans (hg (f s) ws r)

/-- A choice between two such operations, by a condition on the rest of the state. -/
theorem ite {c : State → Prop} [DecidablePred c] (hc : ∀ s ws r, c (s.withInputAndRead ws r) ↔ c s)
    (hf : IgnoresInputAndRead f) (hg : IgnoresInputAndRead g) : IgnoresInputAndRead fun s => if c s then f s else g s := by
  intro s ws r
  by_cases h : c s
  · simp only [if_pos h, if_pos ((hc s ws r).2 h), hf s ws r]
  · simp only [if_neg h, if_neg (mt (hc s ws r).1 h), hg s ws r]

/-! ### The timer, the queue and the CTRL commands -/

theorem timerStep : IgnoresInputAndRead State.timerStep :=
  ite (fun _ _ _ => Iff.rfl) (fun _ _ _ => rfl) (ite (fun _ _ _ => Iff.rfl) (fun _ _ _ => rfl) (fun _ _ _ => rfl))

theorem pop : IgnoresInputAndRead State.pop := by
  intro s ws r
  cases hq : s.q with
  | nil => simp only [State.pop, State.withInputAndRead_q, hq]; rfl
  | cons m rest => simp only [State.pop, State.withInputAndRead_q, hq]; rfl

theorem checkFrame : IgnoresInputAndRead State.checkFrame :=
  comp (g := State.toPre) (fun _ _ _ => rfl)
    (ite (fun _ _ _ => Iff.rfl) (ite (fun _ _ _ => Iff.rfl) (fun _ _ _ => rfl) (fun _ _ _ => rfl)) (fun _ _ _ => rfl))

/-- A command that its bit of CTRL selects or leaves out. -/
theorem select (c : Bool) (hf : IgnoresInputAndRead f) : IgnoresInputAndRead fun s => if c then f s else s :=
  ite (fun _ _ _ => Iff.rfl) hf (fun _ _ _ => rfl)

theorem runCommands (v : Word32) : IgnoresInputAndRead (State.runCommands · v) :=
  have hpop := select (v.getLsbD 0) pop
  have hclear := select (f := State.clear) (v.getLsbD 1) fun _ _ _ => rfl
  have hresync := select (f := State.resync) (v.getLsbD 2) fun _ _ _ => rfl
  have hcounters := select (f := State.clearCounters) (v.getLsbD 3) fun _ _ _ => rfl
  hcounters.comp (hresync.comp (hclear.comp hpop))

/-! ### The parser -/

theorem rxPre (b : Byte) : IgnoresInputAndRead (State.rxPre · b) :=
  ite (fun _ _ _ => Iff.rfl) (ite (fun _ _ _ => Iff.rfl) (fun _ _ _ => rfl) (fun _ _ _ => rfl)) (fun _ _ _ => rfl)

theorem rxAddr (b : Byte) : IgnoresInputAndRead (State.rxAddr · b) :=
  ite (fun _ _ _ => Iff.rfl) (fun _ _ _ => rfl) (fun _ _ _ => rfl)

theorem rxSize (b : Byte) : IgnoresInputAndRead (State.rxSize · b) :=
  comp (g := State.leaveSize) (fun _ _ _ => rfl) (ite (fun _ _ _ => Iff.rfl) (fun _ _ _ => rfl) (fun _ _ _ => rfl))

theorem rxPayloadByte (b : Byte) : IgnoresInputAndRead (State.rxPayloadByte · b) :=
  ite (fun _ _ _ => Iff.rfl) (fun _ _ _ => rfl) (fun _ _ _ => rfl)

theorem rxCksum (b : Byte) : IgnoresInputAndRead (State.rxCksum · b) :=
  ite (fun _ _ _ => Iff.rfl) (fun _ _ _ => rfl) (checkFrame.comp (f := (State.takeCkByte · b)) fun _ _ _ => rfl)

theorem parse (b : Byte) : IgnoresInputAndRead (State.parse · b) := by
  intro s ws r
  cases hp : s.pstate with
  | pre => simpa only [State.parse, State.withInputAndRead_pstate, hp] using rxPre b s ws r
  | addr => simpa only [State.parse, State.withInputAndRead_pstate, hp] using rxAddr b s ws r
  | size => simpa only [State.parse, State.withInputAndRead_pstate, hp] using rxSize b s ws r
  | payload => simpa only [State.parse, State.withInputAndRead_pstate, hp] using rxPayloadByte b s ws r
  | cksum => simpa only [State.parse, State.withInputAndRead_pstate, hp] using rxCksum b s ws r

end IgnoresInputAndRead

/-! ## Every event -/

/-- An event that is no CSR read starts a new outcome and then runs such an operation. -/
theorem exec_of_not_csrRead {i : Instr} (hi : eventClass i ≠ .csrRead) :
    ∃ f, IgnoresInputAndRead f ∧ ∀ s, exec i s = .next (f s.beginEvent) := by
  cases i with
  | tick => exact ⟨_, .timerStep, exec_tick⟩
  | rxByte b => exact ⟨_, .comp (g := State.restartIdle) (fun _ _ _ => rfl) (.parse b), fun s => exec_rxByte s b⟩
  | rxError => exact ⟨_, .comp (f := (State.raise · .rxIoError)) .timerStep fun _ _ _ => rfl, exec_rxError⟩
  | wrPreamble v => exact ⟨fun s => { s with pre := unpackPreamble v }, fun _ _ _ => rfl, fun s => exec_wrPreamble s v⟩
  | wrCtrl v => exact ⟨_, .runCommands v, fun s => exec_wrCtrl s v⟩
  | wrTimeout v => exact ⟨fun s => { s with timeout := v, idleCnt := 0 }, fun _ _ _ => rfl, fun s => exec_wrTimeout s v⟩
  | wrIgnored a v => exact ⟨(State.raise · (.csrReserved a)), fun _ _ _ => rfl, fun s => exec_wrIgnored s a v⟩
  | reset =>
    exact ⟨fun s => { State.initial s.build with input := s.input, outcome := s.outcome }, fun _ _ _ => rfl, exec_reset⟩
  | rdPreamble | rdCtrl | rdStatus | rdHeadInfo | rdCntOk | rdCntCrcErr | rdCntQDrop | rdCntLenClamp | rdCntTimeout
  | rdTimeout | rdParams | rdHeadData | rdReserved => exact absurd rfl hi

/-- Every event completes (R128), and leaves the trace still to come alone, whatever that trace is. -/
theorem exec_next_withTrace (i : Instr) (s : State) :
    ∃ t, exec i s = .next t ∧ ∀ ws, exec i (s.withTrace ws) = .next (t.withTrace ws) := by
  by_cases hi : eventClass i = .csrRead
  · obtain ⟨v, cs, hread⟩ := exec_of_csrRead hi s
    exact ⟨_, hread s.input s.outcome, fun ws => hread (ws ++ s.input) s.outcome⟩
  · obtain ⟨f, hf, hexec⟩ := exec_of_not_csrRead hi
    refine ⟨_, hexec s, fun ws => (hexec _).trans (congrArg _ ?_)⟩
    calc f (s.withTrace ws).beginEvent
        = (f s.beginEvent).withInputAndRead (ws ++ s.input) none := hf s.beginEvent (ws ++ s.input) none
      _ = (f s.beginEvent).withInputAndRead (ws ++ (f s.beginEvent).input) (f s.beginEvent).outcome.readData := by
        rw [hf.input_eq, hf.readData_eq, State.beginEvent_input, State.beginEvent_outcome]

/-- Only a CSR read returns a value (R15). -/
theorem exec_readData_eq_none {i : Instr} {s t : State} (hi : eventClass i ≠ .csrRead) (h : exec i s = .next t) :
    t.outcome.readData = none := by
  obtain ⟨f, hf, hexec⟩ := exec_of_not_csrRead hi
  cases (hexec s).symm.trans h
  exact hf.readData_eq s.beginEvent

/-- The outcome of the last event has no effect on the next one. -/
theorem exec_withOutcome (i : Instr) (s : State) (o : EventOutcome) : exec i { s with outcome := o } = exec i s := by
  by_cases hi : eventClass i = .csrRead
  · obtain ⟨v, cs, hread⟩ := exec_of_csrRead hi s
    exact (hread s.input o).trans (hread s.input s.outcome).symm
  · obtain ⟨f, -, hexec⟩ := exec_of_not_csrRead hi
    exact (hexec _).trans (hexec s).symm

/-! ## A trace and its events (R64, R73) -/

theorem step_withTrace_cons {w : TraceWord} {i : Instr} (hw : decode w = .ok i) (ws : List TraceWord) (s : State) :
    step (s.withTrace (w :: ws)) = exec i (s.withTrace ws) := by
  simp only [step, fetch, State.withTrace_input, List.cons_append, hw]
  rfl

/-- Running a trace of legal words is running the events they stand for, by induction on the trace: an event leaves the words
behind it alone, so the next step finds them. -/
theorem runSteps_withTrace {ws : List TraceWord} {is : List Instr} (h : ws.map decode = is.map .ok) (s : State) :
    runSteps ws.length (s.withTrace ws) = runEvents is s := by
  induction ws generalizing is s with
  | nil =>
    cases is with
    | nil => rfl
    | cons i is => cases h
  | cons w ws ih =>
    cases is with
    | nil => cases h
    | cons i is =>
      obtain ⟨hw, hws⟩ := List.cons.inj h
      obtain ⟨t, ht, htrace⟩ := exec_next_withTrace i s
      rw [List.length_cons, runSteps_succ, step_withTrace_cons hw, htrace, runEvents_cons, ht]
      simp only [andThen_next, ih hws]
      rfl

/-! ## The clock cycle (R60) -/

/-- The event of a CSR access (R109). -/
def CsrAccess.instr : CsrAccess → Instr
  | .read a => readRow a
  | .write a v => writeRow a v

/-- The events of a cycle, in the order of `ClockCycle.words`. -/
def ClockCycle.events (c : ClockCycle) : List Instr :=
  if c.rst then [.reset] else (c.csr.map CsrAccess.instr).toList ++ [c.port.instr]

theorem decode_reset_word : decode (mkWord 0x5 0 0) = .ok .reset := by decide

theorem CsrAccess.decode_word (a : CsrAccess) : decode a.word = .ok a.instr := by
  cases a with
  | read a => simp [CsrAccess.word, CsrAccess.instr, decode]
  | write a v => simp [CsrAccess.word, CsrAccess.instr, decode]

theorem PortEvent.decode_word (p : PortEvent) : decode p.word = .ok p.instr := by
  cases p with
  | byte b =>
    rw [PortEvent.word, zeroExtend_eq_append]
    simp [PortEvent.instr, decode]
  | error => decide
  | tick => decide

theorem ClockCycle.map_decode_words (c : ClockCycle) : c.words.map decode = c.events.map .ok := by
  obtain ⟨rst, csr, port⟩ := c
  cases rst with
  | true => exact congrArg (fun d => [d]) decode_reset_word
  | false =>
    cases csr with
    | none => simp [ClockCycle.words, ClockCycle.events, port.decode_word]
    | some a => simp [ClockCycle.words, ClockCycle.events, a.decode_word, port.decode_word]

/-- A cycle is the run of its events. -/
theorem runCycle_of_runEvents {c : ClockCycle} {s t : State} {obs : List Observation}
    (h : runEvents c.events s = .next (t, obs)) :
    runCycle c s = .next { state := t, readData := c.readResult obs, conditions := obs.flatMap (·.conditions) } := by
  rw [runCycle, runSteps_withTrace c.map_decode_words, h, andThen_next]

theorem runEvents_singleton {i : Instr} {s t : State} (h : exec i s = .next t) :
    runEvents [i] s = .next (t, [t.observation]) := by
  simp only [runEvents_cons, h, andThen_next, runEvents_nil]

theorem runEvents_pair {i j : Instr} {s t u : State} (hi : exec i s = .next t) (hj : exec j t = .next u) :
    runEvents [i, j] s = .next (u, [t.observation, u.observation]) := by
  rw [runEvents_cons, hi, andThen_next, runEvents_singleton hj, andThen_next]

theorem eventClass_readRow (a : CsrAddr) : eventClass (readRow a) = .csrRead := by
  unfold readRow
  cases csrReg a <;> rfl

theorem eventClass_writeRow (a : CsrAddr) (v : Word32) : eventClass (writeRow a v) = .csrWrite := by
  unfold writeRow
  cases csrReg a <;> rfl

theorem PortEvent.eventClass_instr (p : PortEvent) : eventClass p.instr = .bytePort := by
  cases p <;> rfl

/-- A byte-port event returns no value. -/
theorem PortEvent.readData_eq_none {p : PortEvent} {s t : State} (h : exec p.instr s = .next t) :
    t.outcome.readData = none :=
  exec_readData_eq_none (by simp [p.eventClass_instr]) h

/-- A cycle without a CSR access is its byte-port event. -/
theorem runCycle_port {p : PortEvent} {s t : State} (ht : exec p.instr s = .next t) :
    runCycle { rst := false, csr := none, port := p } s = .next
      { state := t, readData := none, conditions := t.outcome.conditions } := by
  have hrun := runCycle_of_runEvents (c := { rst := false, csr := none, port := p }) (runEvents_singleton ht)
  simpa [ClockCycle.readResult, State.observation, PortEvent.readData_eq_none ht] using hrun

/-- A cycle with a CSR access is the access and then the byte-port event, on the state the access left. The value read is the
access's, as a byte-port event returns none. -/
theorem runCycle_access {a : CsrAccess} {p : PortEvent} {s u t : State} (hu : exec a.instr s = .next u)
    (ht : exec p.instr u = .next t) :
    runCycle { rst := false, csr := some a, port := p } s = .next
      { state := t, readData := u.outcome.readData, conditions := u.outcome.conditions ++ t.outcome.conditions } := by
  have hread : ClockCycle.readResult { rst := false, csr := some a, port := p } [u.observation, t.observation]
      = u.outcome.readData := by
    cases hr : u.outcome.readData with
    | none => simp [ClockCycle.readResult, State.observation, hr, PortEvent.readData_eq_none ht]
    | some v => simp [ClockCycle.readResult, State.observation, hr]
  have hrun := runCycle_of_runEvents (c := { rst := false, csr := some a, port := p }) (runEvents_pair hu ht)
  rw [hread] at hrun
  simpa [State.observation] using hrun

/-- Settles O56: a cycle is the run of its events; a CSR read before the byte-port event leaves it the state it would have
found without the read. -/
theorem cycleAppliesItsEventsInOrder : Obligations.CycleAppliesItsEventsInOrder := by
  rintro ⟨rst, csr, port⟩ s
  constructor
  · rintro rfl
    have hrun := runCycle_of_runEvents (c := { rst := true, csr := csr, port := port })
      (runEvents_singleton (exec_reset s))
    refine ⟨_, exec_reset s, hrun.trans ?_⟩
    rcases csr with _ | ⟨a | ⟨a, v⟩⟩ <;> rfl
  · rintro rfl
    cases csr with
    | none =>
      obtain ⟨t, ht, -⟩ := exec_next_withTrace port.instr s
      exact ⟨t, ht, runCycle_port ht⟩
    | some access =>
      cases access with
      | read a =>
        obtain ⟨v, cs, hread⟩ := exec_of_csrRead (eventClass_readRow a) s
        obtain ⟨t, ht, -⟩ := exec_next_withTrace port.instr s
        have hu := hread s.input s.outcome
        have ht' := (exec_withOutcome port.instr s { readData := some v, conditions := cs }).trans ht
        exact ⟨_, v, t, hu, rfl, rfl, ht, runCycle_access (a := .read a) hu ht'⟩
      | write a v =>
        obtain ⟨u, hu, -⟩ := exec_next_withTrace (writeRow a v) s
        obtain ⟨t, ht, -⟩ := exec_next_withTrace port.instr u
        have hnone : u.outcome.readData = none := exec_readData_eq_none (by simp [eventClass_writeRow]) hu
        exact ⟨u, t, hu, ht, hnone ▸ runCycle_access (a := .write a v) hu ht⟩

end Sys2Proof.Machine
end

section
/-! Proofs/IllegalWords.lean: the words that the decoder refuses are those of the list of 30_encoding.md R77, written on the raw
bits of the word, and a step refuses exactly these (O3). -/

namespace Sys2Proof

/-! ## The fields of R77's list on the raw bits -/

/-- Bits 43:0 are ADDR and DATA together (R73). -/
theorem extract_addr_data_eq_zero_iff (w : TraceWord) :
    w.extractLsb' 0 44 = 0 ↔ addrField w = 0 ∧ dataField w = 0 := by
  simp only [addrField, dataField, ← BitVec.toNat_inj, BitVec.extractLsb'_toNat, Nat.shiftRight_eq_div_pow,
    BitVec.ofNat_eq_ofNat, BitVec.toNat_ofNat]
  omega

/-- DATA[31:8] is bits 31:8 of the word (R73). -/
theorem dataField_extract_high (w : TraceWord) : (dataField w).extractLsb' 8 24 = w.extractLsb' 8 24 := by
  simp only [dataField, ← BitVec.toNat_inj, BitVec.extractLsb'_toNat, Nat.shiftRight_eq_div_pow]
  omega

/-! ## What the decoder refuses -/

theorem exists_ite_eq_error {ε α : Type} {c : Prop} [Decidable c] {i : α} {e : ε} :
    (∃ why, (if c then Except.ok i else .error e) = .error why) ↔ ¬c := by
  split
  · next hc => simp [hc]
  · next hc => simp [hc]

/-- The decoder refuses exactly the words of R77's list. -/
theorem exists_decode_eq_error_iff (w : TraceWord) :
    (∃ why, decode w = .error why) ↔
      0x6 ≤ (kindField w).toNat
        ∨ (((kindField w).toNat = 0x0 ∨ (kindField w).toNat = 0x2 ∨ (kindField w).toNat = 0x5) ∧ w.extractLsb' 0 44 ≠ 0)
        ∨ ((kindField w).toNat = 0x1 ∧ (addrField w ≠ 0 ∨ w.extractLsb' 8 24 ≠ 0))
        ∨ ((kindField w).toNat = 0x3 ∧ dataField w ≠ 0) := by
  rw [Ne, extract_addr_data_eq_zero_iff, ← dataField_extract_high]
  unfold decode
  split
  · next hk => simp [hk, exists_ite_eq_error]
  · next hk => simp [hk, exists_ite_eq_error, imp_iff_not_or]
  · next hk => simp [hk, exists_ite_eq_error]
  · next hk => simp [hk, exists_ite_eq_error]
  · next hk => simp [hk]
  · next hk => simp [hk, exists_ite_eq_error]
  · next h0 h1 h2 h3 h4 h5 =>
    have hkind : 0x6 ≤ (kindField w).toNat := by grind
    simp [hkind]

end Sys2Proof

namespace Sys2Proof.Machine

/-! ## What a step does with the first word of the trace -/

variable {s : State} {w : TraceWord} {rest : List TraceWord}

theorem step_of_decode_eq_error {why : IllegalWord} (hin : s.input = w :: rest) (hw : decode w = .error why) :
    step s = .refused (.illegalTraceWord why) := by
  simp only [step, fetch, hin, hw]

theorem step_of_decode_eq_ok {i : Instr} (hin : s.input = w :: rest) (hw : decode w = .ok i) :
    step s = exec i { s with input := rest } := by
  simp only [step, fetch, hin, hw]

/-- Settles O3: a word of the list does not decode, so its step is refused; any other word decodes, and every event
completes. -/
theorem illegalWordsAreRefused : Obligations.IllegalWordsAreRefused := by
  intro s w rest hin
  have hlist := exists_decode_eq_error_iff w
  intro kind
  split
  · next hillegal =>
    obtain ⟨why, hw⟩ := hlist.2 hillegal
    exact ⟨why, step_of_decode_eq_error hin hw⟩
  · next hlegal =>
    cases hw : decode w with
    | error why => exact absurd (hlist.1 ⟨why, hw⟩) hlegal
    | ok i =>
      obtain ⟨t, ht, -⟩ := exec_next_withTrace i { s with input := rest }
      exact ⟨t, (step_of_decode_eq_ok hin hw).trans ht⟩

end Sys2Proof.Machine
end

section
/-! Proofs/FrameLength.lean: how many bytes the receiver takes in once the preamble has matched (30_encoding.md R71). A run of
RX_BYTE events is a fold of the state after one byte; each parser state says which lists of bytes are the rest of its frame; a
byte of the frame leaves a state whose rest is the remaining bytes (O17). -/

namespace Sys2Proof.Machine

/-! ## Runs of bytes -/

/-- The state after RX_BYTE(b) (R83). -/
def State.afterByte (s : State) (b : Byte) : State := (s.beginEvent.parse b).restartIdle

/-- The state after one RX_BYTE for each of the bytes. -/
def State.afterBytes (s : State) (bs : List Byte) : State := bs.foldl State.afterByte s

@[simp] theorem State.afterBytes_nil (s : State) : s.afterBytes [] = s := rfl

@[simp] theorem State.afterBytes_cons (s : State) (b : Byte) (bs : List Byte) :
    s.afterBytes (b :: bs) = (s.afterByte b).afterBytes bs := rfl

theorem exec_rxByte_eq_afterByte (s : State) (b : Byte) : exec (.rxByte b) s = .next (s.afterByte b) := exec_rxByte s b

theorem runEvents_rxBytes (bs : List Byte) (s : State) :
    ∃ obs, runEvents (bs.map Instr.rxByte) s = .next (s.afterBytes bs, obs) := by
  induction bs generalizing s with
  | nil => exact ⟨[], rfl⟩
  | cons b bs ih =>
    obtain ⟨obs, hrun⟩ := ih (s.afterByte b)
    refine ⟨(s.afterByte b).observation :: obs, ?_⟩
    rw [List.map_cons, runEvents_cons, exec_rxByte_eq_afterByte, andThen_next, hrun, andThen_next, State.afterBytes_cons]

theorem State.Inv.afterByte {s : State} (h : s.Inv) (b : Byte) : (s.afterByte b).Inv := (h.beginEvent.parse b).restartIdle

/-! ## The rest of a frame -/

/-- The bytes `bs` are as many as the receiver takes in before it searches for a preamble again, from the parser's position
(R71): none at (PRE, 0), and no list elsewhere in PRE; in ADDR and SIZE the length byte is among them. -/
def State.RestOfFrame (s : State) (bs : List Byte) : Prop :=
  match s.pstate with
  | .pre => s.pcount = 0 ∧ bs = []
  | .addr => bs.length = (2 - s.pcount.toNat) + 1 + min (bs.getD (2 - s.pcount.toNat) 0).toNat s.build.maxPayload + 4
  | .size => bs.length = 1 + min (bs.getD 0 0).toNat s.build.maxPayload + 4
  | .payload => bs.length = (s.rxLen.toNat - s.pcount.toNat) + 4
  | .cksum => bs.length = 4 - s.pcount.toNat

section

variable {s : State} {bs : List Byte}

theorem State.restOfFrame_of_pre (hp : s.pstate = .pre) : s.RestOfFrame bs ↔ s.pcount = 0 ∧ bs = [] := by
  simp only [State.RestOfFrame, hp]

theorem State.restOfFrame_of_addr (hp : s.pstate = .addr) : s.RestOfFrame bs ↔
    bs.length = (2 - s.pcount.toNat) + 1 + min (bs.getD (2 - s.pcount.toNat) 0).toNat s.build.maxPayload + 4 := by
  simp only [State.RestOfFrame, hp]

theorem State.restOfFrame_of_size (hp : s.pstate = .size) :
    s.RestOfFrame bs ↔ bs.length = 1 + min (bs.getD 0 0).toNat s.build.maxPayload + 4 := by
  simp only [State.RestOfFrame, hp]

theorem State.restOfFrame_of_payload (hp : s.pstate = .payload) :
    s.RestOfFrame bs ↔ bs.length = (s.rxLen.toNat - s.pcount.toNat) + 4 := by
  simp only [State.RestOfFrame, hp]

theorem State.restOfFrame_of_cksum (hp : s.pstate = .cksum) : s.RestOfFrame bs ↔ bs.length = 4 - s.pcount.toNat := by
  simp only [State.RestOfFrame, hp]

/-- After the length byte RX_LEN payload bytes and the checksum are to come, also where RX_LEN is 0 (R88, R89). -/
theorem State.restOfFrame_leaveSize : s.leaveSize.RestOfFrame bs ↔ bs.length = s.rxLen.toNat + 4 := by
  by_cases hlen : s.rxLen = 0
  · rw [State.restOfFrame_of_cksum (by rw [State.leaveSize_pstate, if_pos hlen]), State.leaveSize_pcount, hlen]
    rfl
  · rw [State.restOfFrame_of_payload (by rw [State.leaveSize_pstate, if_neg hlen])]
    rfl

/-- RX_LEN is the clamped length byte, clamped or not (R88). -/
theorem State.takeLength_rxLen (s : State) (b : Byte) : (s.takeLength b).rxLen = clampLen s.build.maxPayload b := by
  obtain ⟨-, e⟩ | ⟨-, e⟩ := s.takeLength_spec b
  · rw [e]
  · rw [e]

end

namespace State.RestOfFrame

variable {s : State} {b : Byte} {bs : List Byte}

theorem atPre_of_nil (h : s.RestOfFrame []) (hinv : s.Inv) : s.pstate = .pre ∧ s.pcount = 0 := by
  cases hp : s.pstate with
  | pre => exact ⟨rfl, ((State.restOfFrame_of_pre hp).1 h).1⟩
  | addr => simp [State.restOfFrame_of_addr hp] at h
  | size => simp [State.restOfFrame_of_size hp] at h
  | payload => simp [State.restOfFrame_of_payload hp] at h
  | cksum =>
    have hcount := hinv.cksumBound hp
    have hlen := (State.restOfFrame_of_cksum hp).1 h
    rw [List.length_nil] at hlen
    omega

theorem pstate_ne_pre (h : s.RestOfFrame (b :: bs)) : s.pstate ≠ .pre := by
  intro hp
  simp [State.restOfFrame_of_pre hp] at h

/-! ### A byte of the frame, one lemma for each state -/

theorem parse_addr (h : s.RestOfFrame (b :: bs)) (hinv : s.Inv) (hp : s.pstate = .addr) : (s.parse b).RestOfFrame bs := by
  have hcount := hinv.addrBound hp
  rw [State.restOfFrame_of_addr hp] at h
  obtain ⟨h0, e⟩ | ⟨hne, e⟩ := s.parse_addr b hp
  · have hlen : bs.length + 1 = 2 + 1 + min (bs.getD 1 0).toNat s.build.maxPayload + 4 := by simpa [h0] using h
    rw [e, State.restOfFrame_of_addr (by exact hp)]
    show bs.length = 1 + 1 + min (bs.getD 1 0).toNat s.build.maxPayload + 4
    omega
  · have h1 : s.pcount.toNat = 1 := by bv_omega
    have hlen : bs.length + 1 = 1 + 1 + min (bs.getD 0 0).toNat s.build.maxPayload + 4 := by simpa [h1] using h
    rw [e, State.restOfFrame_of_size rfl]
    show bs.length = 1 + min (bs.getD 0 0).toNat s.build.maxPayload + 4
    omega

theorem parse_size (h : s.RestOfFrame (b :: bs)) (hp : s.pstate = .size) : (s.parse b).RestOfFrame bs := by
  have hlen : bs.length + 1 = 1 + min b.toNat s.build.maxPayload + 4 := (State.restOfFrame_of_size hp).1 h
  rw [s.parse_size b hp, State.restOfFrame_leaveSize, State.takeLength_rxLen, clampLen_toNat]
  omega

theorem parse_payload (h : s.RestOfFrame (b :: bs)) (hinv : s.Inv) (hp : s.pstate = .payload) :
    (s.parse b).RestOfFrame bs := by
  obtain ⟨-, hcount⟩ := hinv.payloadBound hp
  rw [State.restOfFrame_of_payload hp, List.length_cons] at h
  obtain ⟨hlast, e⟩ | ⟨hmore, e⟩ := s.parse_payload b hp
  · rw [e, State.restOfFrame_of_cksum rfl]
    show bs.length = 4
    omega
  · rw [e, State.restOfFrame_of_payload (by exact hp)]
    show bs.length = (s.rxLen.toNat - (s.pcount + 1).toNat) + 4
    bv_omega

theorem parse_cksum (h : s.RestOfFrame (b :: bs)) (hinv : s.Inv) (hp : s.pstate = .cksum) :
    (s.parse b).RestOfFrame bs := by
  have hcount := hinv.cksumBound hp
  rw [State.restOfFrame_of_cksum hp, List.length_cons] at h
  obtain ⟨hlt, e⟩ | ⟨hlast, e⟩ := s.parse_cksum b hp
  · rw [e, State.restOfFrame_of_cksum (by exact hp)]
    show bs.length = 4 - (s.pcount + 1).toNat
    bv_omega
  · have hnil : bs = [] := List.eq_nil_of_length_eq_zero (by omega)
    rw [e, State.restOfFrame_of_pre rfl]
    exact ⟨rfl, hnil⟩

theorem parse (h : s.RestOfFrame (b :: bs)) (hinv : s.Inv) : (s.parse b).RestOfFrame bs := by
  cases hp : s.pstate with
  | pre => exact absurd hp h.pstate_ne_pre
  | addr => exact h.parse_addr hinv hp
  | size => exact h.parse_size hp
  | payload => exact h.parse_payload hinv hp
  | cksum => exact h.parse_cksum hinv hp

theorem beginEvent (h : s.RestOfFrame bs) : s.beginEvent.RestOfFrame bs := h

theorem restartIdle (h : s.RestOfFrame bs) : s.restartIdle.RestOfFrame bs := h

theorem afterByte (h : s.RestOfFrame (b :: bs)) (hinv : s.Inv) : (s.afterByte b).RestOfFrame bs :=
  (h.beginEvent.parse hinv.beginEvent).restartIdle

/-- By induction on the bytes taken in. -/
theorem afterBytes {xs : List Byte} (h : s.RestOfFrame (xs ++ bs)) (hinv : s.Inv) :
    (s.afterBytes xs).RestOfFrame bs ∧ (s.afterBytes xs).Inv := by
  induction xs generalizing s with
  | nil => exact ⟨h, hinv⟩
  | cons x xs ih => exact ih (h.afterByte hinv) (hinv.afterByte x)

end State.RestOfFrame

/-- Settles O17: from (ADDR, 0) the bytes are the rest of a frame; after all of them nothing of it is left, and after fewer
something is. -/
theorem frameTakesInItsLength : Obligations.FrameTakesInItsLength := by
  intro s dst src len rest hinv hp hcount hlen
  have hframe : s.RestOfFrame (dst :: src :: len :: rest) := by
    rw [State.restOfFrame_of_addr hp, hcount]
    show rest.length + 3 = 2 + 1 + min len.toNat s.build.maxPayload + 4
    omega
  constructor
  · obtain ⟨obs, hrun⟩ := runEvents_rxBytes (dst :: src :: len :: rest) s
    obtain ⟨hend, hinv'⟩ := State.RestOfFrame.afterBytes (bs := []) (by rwa [List.append_nil]) hinv
    exact ⟨_, obs, hrun, hend.atPre_of_nil hinv'⟩
  · intro n hn
    set frame := dst :: src :: len :: rest
    obtain ⟨obs, hrun⟩ := runEvents_rxBytes (frame.take n) s
    have hlt : n < frame.length := hn
    have hsplit : frame.take n ++ frame[n] :: frame.drop (n + 1) = frame := by simp
    obtain ⟨hmore, -⟩ := State.RestOfFrame.afterBytes (hsplit.symm ▸ hframe) hinv
    exact ⟨_, obs, hrun, hmore.pstate_ne_pre⟩

end Sys2Proof.Machine
end

section
/-! Proofs/ReceiveEvents.lean: the whole next state of each byte-port event (40_receive.md R85 to R94, 60_exceptions.md R138).
RX_BYTE in PRE, ADDR, SIZE and PAYLOAD (O10, O12, O13, O14) and the fourth checksum byte (O16), then TICK and RX_ERROR
(O24, O25): each is the specification of the operation behind it, read at the state in which the event begins. -/

namespace Sys2Proof.Machine

/-! ## The checksum bytes on the wire (R11, R91) -/

/-- The checksum bytes in wire order are the lanes in the order of CK_ORDER. -/
theorem ckBytes_eq_lanes (order : CkOrder) (v : Word32) :
    ckBytes order v =
      [getLane v (ckLane order 0), getLane v (ckLane order 1), getLane v (ckLane order 2), getLane v (ckLane order 3)] := by
  cases order with
  | le => rfl
  | be => rfl

theorem length_ckBytes (order : CkOrder) (v : Word32) : (ckBytes order v).length = 4 := by rw [ckBytes_eq_lanes]; rfl

/-- Writing checksum byte `i` replaces that byte of the four on the wire. -/
theorem ckBytes_putCkByte (order : CkOrder) {i : Byte} (hi : i.toNat < 4) (b : Byte) (v : Word32) :
    ckBytes order (putCkByte order i b v) = (ckBytes order v).set i.toNat b := by
  simp only [ckBytes_eq_lanes]
  rw [getLane_putCkByte order i b v 0 hi (by decide), getLane_putCkByte order i b v 1 hi (by decide),
    getLane_putCkByte order i b v 2 hi (by decide), getLane_putCkByte order i b v 3 hi (by decide)]
  obtain h | h | h | h : i.toNat = 0 ∨ i.toNat = 1 ∨ i.toNat = 2 ∨ i.toNat = 3 := by omega
  all_goals rw [h]; rfl

/-- Four checksum bytes on the wire and the word they stand for. -/
theorem ckBytes_eq_iff (order : CkOrder) (v : Word32) (c0 c1 c2 c3 : Byte) :
    ckBytes order v = [c0, c1, c2, c3] ↔ (if order = .le then c3 ++ c2 ++ c1 ++ c0 else c0 ++ c1 ++ c2 ++ c3) = v := by
  cases order with
  | le =>
    rw [if_pos rfl]
    constructor
    · intro h
      obtain ⟨rfl, rfl, rfl, rfl⟩ : getLane v 0 = c0 ∧ getLane v 1 = c1 ∧ getLane v 2 = c2 ∧ getLane v 3 = c3 := by
        simpa [ckBytes, le32] using h
      exact append_lanes v
    · rintro rfl
      simp [ckBytes, le32, getLane_append]
  | be =>
    rw [if_neg (by decide)]
    constructor
    · intro h
      obtain ⟨rfl, rfl, rfl, rfl⟩ : getLane v 3 = c0 ∧ getLane v 2 = c1 ∧ getLane v 1 = c2 ∧ getLane v 0 = c3 := by
        simpa [ckBytes, be32, le32] using h
      exact append_lanes v
    · rintro rfl
      simp [ckBytes, be32, le32, getLane_append]

/-- A byte written to the top lane stands above the word's three lower bytes. -/
theorem putLane_top (v : Word32) (b : Byte) : putLane v 3 b = b ++ v.extractLsb' 0 24 := by
  apply eq_of_lanes
  intro j hj
  rw [getLane_putLane _ _ _ _ hj]
  split
  · next h =>
    subst h
    exact BitVec.extractLsb'_append_eq_left.symm
  · next h =>
    have hle : 8 * j + 8 ≤ 24 := by omega
    rw [getLane, getLane, BitVec.extractLsb'_append_eq_of_add_le hle, BitVec.extractLsb'_extractLsb'_of_le hle]

/-- A byte written to the bottom lane stands below the word's three upper bytes. -/
theorem putLane_bottom (v : Word32) (b : Byte) : putLane v 0 b = v.extractLsb' 8 24 ++ b := by
  apply eq_of_lanes
  intro j hj
  rw [getLane_putLane _ _ _ _ hj]
  split
  · next h =>
    subst h
    exact ((BitVec.extractLsb'_append_eq_of_add_le (by decide)).trans BitVec.extractLsb'_eq_self).symm
  · next h =>
    have hle : 8 ≤ 8 * j := by omega
    rw [getLane, getLane, BitVec.extractLsb'_append_eq_of_le hle]
    ext i hi
    have hpos : 8 + (8 * j - 8 + i) = 8 * j + i := by omega
    have hin : 8 * j - 8 + i < 24 := by omega
    simp [hpos, hin]

/-- RX_CK with the fourth checksum byte written (R91). -/
theorem putCkByte_fourth (order : CkOrder) (b : Byte) (v : Word32) :
    putCkByte order 3 b v = if order = .le then b ++ v.extractLsb' 0 24 else v.extractLsb' 8 24 ++ b := by
  cases order with
  | le => exact putLane_top v b
  | be => exact putLane_bottom v b

/-! ## RX_BYTE -/

/-- Settles O10: P[PCOUNT] decides between the two matches and the mismatch. -/
theorem preambleDetector : Obligations.PreambleDetector := by
  intro s b hp hcount
  have hget : [s.pre.p0, s.pre.p1, s.pre.p2, s.pre.p3][s.pcount.toNat]? = some (s.pre.get s.pcount) :=
    s.pre.get_eq s.pcount hcount
  rw [exec_rxByte, hget]
  obtain ⟨(hb : b = s.pre.get s.pcount), (h3 : s.pcount = 3), e⟩
    | ⟨(hb : b = s.pre.get s.pcount), (h3 : s.pcount ≠ 3), e⟩
    | ⟨(hb : b ≠ s.pre.get s.pcount), e⟩ := s.beginEvent.parse_pre b hp
  · rw [e, if_pos (congrArg some hb.symm), if_pos h3]
    rfl
  · rw [e, if_pos (congrArg some hb.symm), if_neg h3]
    rfl
  · rw [e, if_neg fun h => hb (Option.some.inj h).symm]
    rfl

/-- Settles O12: PCOUNT tells the destination from the source, and neither is compared with anything. -/
theorem addressBytes : Obligations.AddressBytes := by
  intro s b hp _
  rw [exec_rxByte]
  obtain ⟨(h0 : s.pcount = 0), e⟩ | ⟨(h0 : s.pcount ≠ 0), e⟩ := s.beginEvent.parse_addr b hp
  · rw [e, if_pos h0]
    rfl
  · rw [e, if_neg h0]
    rfl

/-- The clamped length as a byte (R88). -/
theorem clampLen_eq_ofNat_min (m : Nat) (b : Byte) : clampLen m b = BitVec.ofNat 8 (min b.toNat m) := by
  rw [← clampLen_toNat, BitVec.ofNat_toNat, BitVec.setWidth_eq]

theorem clampLen_eq_zero_iff (m : Nat) (b : Byte) : clampLen m b = 0 ↔ min b.toNat m = 0 := by
  rw [← clampLen_toNat, ← BitVec.toNat_inj]
  rfl

/-- Settles O13: RX_LEN is the minimum whether or not the byte is clamped, and the exit from SIZE depends on it alone. -/
theorem lengthByteIsClamped : Obligations.LengthByteIsClamped := by
  intro s b hp _
  simp only [exec_rxByte, s.beginEvent.parse_size b hp, ← clampLen_eq_ofNat_min, ← clampLen_eq_zero_iff]
  obtain ⟨(hlt : b.toNat > s.build.maxPayload), e⟩ | ⟨(hle : b.toNat ≤ s.build.maxPayload), e⟩ :=
    s.beginEvent.takeLength_spec b
  · rw [e, if_pos hlt, if_pos hlt]
    rfl
  · rw [e, if_neg (Nat.not_lt.2 hle), if_neg (Nat.not_lt.2 hle)]
    rfl

/-- Settles O14: by R35 PCOUNT is an index of RX_BUF, so the write sets that element and no other. -/
theorem payloadByteIsStored : Obligations.PayloadByteIsStored := by
  intro s b hinv hp
  obtain ⟨-, hcount⟩ := hinv.payloadBound hp
  have hindex : s.pcount.toNat < s.rxBuf.length := by
    rw [hinv.bufLength]
    exact hcount.trans_le hinv.lenBound
  have hbuf : ∀ j, (s.rxBuf.set s.pcount.toNat b)[j]? = if j = s.pcount.toNat then some b else s.rxBuf[j]? := by
    intro j
    rw [List.getElem?_set, if_pos hindex]
    exact if_congr eq_comm rfl rfl
  obtain ⟨(hlast : s.pcount.toNat + 1 = s.rxLen.toNat), e⟩ | ⟨(hmore : s.pcount.toNat + 1 ≠ s.rxLen.toNat), e⟩ :=
    s.beginEvent.parse_payload b hp
  · refine ⟨_, exec_rxByte s b, ?_, ?_⟩
    · rw [e]
      exact hbuf
    · rw [e, if_pos hlast]
      rfl
  · refine ⟨_, exec_rxByte s b, ?_, ?_⟩
    · rw [e]
      exact hbuf
    · rw [e, if_neg hmore]
      rfl

/-- The fourth checksum byte is the one that has the frame checked (R92). -/
theorem State.afterByte_fourthCkByte {s : State} (hp : s.pstate = .cksum) (hc : s.pcount = 3) (b : Byte) :
    s.afterByte b = (s.beginEvent.takeCkByte b).checkFrame.restartIdle := by
  obtain ⟨hlt, -⟩ | ⟨-, e⟩ := s.beginEvent.parse_cksum b hp
  · rw [State.beginEvent_pcount, hc] at hlt
    exact absurd hlt (by decide)
  · exact congrArg State.restartIdle e

/-- Settles O16: the three outcomes of the integrity check, with RX_CK as the fourth byte completes it. -/
theorem integrityCheckOutcome : Obligations.IntegrityCheckOutcome := by
  intro s b hp hc
  have hck : (s.beginEvent.takeCkByte b).rxCk = putCkByte s.build.ckOrder 3 b s.rxCk := by
    rw [State.takeCkByte_rxCk, State.beginEvent_pcount, hc]
    rfl
  have hbyte := exec_rxByte_eq_afterByte s b
  rw [State.afterByte_fourthCkByte hp hc] at hbyte
  refine ⟨_, hbyte, ?_⟩
  have hroom := (s.beginEvent.takeCkByte b).hasRoom_iff
  obtain ⟨hmatch, hr, e⟩ | ⟨hmatch, hr, e⟩ | ⟨hmatch, e⟩ := (s.beginEvent.takeCkByte b).checkFrame_spec
  · rw [e]
    refine ⟨hck.trans (putCkByte_fourth ..), ?_⟩
    split
    · exact ⟨fun _ => rfl, fun hno => absurd (hroom.1 hr) hno⟩
    · next hne => exact absurd hmatch hne
  · rw [e]
    refine ⟨hck.trans (putCkByte_fourth ..), ?_⟩
    split
    · exact ⟨fun hyes => absurd (hroom.2 hyes) (by rw [hr]; decide), fun _ => rfl⟩
    · next hne => exact absurd hmatch hne
  · rw [e]
    refine ⟨hck.trans (putCkByte_fourth ..), ?_⟩
    split
    · next heq => exact absurd heq hmatch
    · rfl

/-! ## TICK and RX_ERROR (R93, R94) -/

/-- The timer step by cases on its conditions, whatever the event has raised before it (R138). -/
theorem State.timerStep_eq_ite (s : State) : s.timerStep =
    (if s.timeout = 0 ∨ (s.pstate = .pre ∧ s.pcount = 0) then { s with idleCnt := 0 }
     else if s.idleCnt.toNat + 1 ≥ s.timeout.toNat then
      { s with
        pstate := .pre, pcount := 0, idleCnt := 0, cntTimeout := s.cntTimeout + 1
        outcome := { s.outcome with conditions := s.outcome.conditions ++ [.timeoutResync s.pstate s.pcount] } }
     else { s with idleCnt := s.idleCnt + 1 }) := by
  obtain ⟨hoff, e⟩ | ⟨hon, hbusy, hfire, e⟩ | ⟨hon, hbusy, hwait, e⟩ := s.timerStep_spec
  · rw [e, if_pos hoff]
    rfl
  · rw [e, if_neg (not_or.2 ⟨hon, hbusy⟩), if_pos hfire]
    rfl
  · rw [e, if_neg (not_or.2 ⟨hon, hbusy⟩), if_neg (Nat.not_le.2 hwait)]

/-- Settles O24: TICK is the timer step from an empty outcome. -/
theorem tickRunsTheTimer : Obligations.TickRunsTheTimer := by
  refine ⟨by decide, fun s => ?_⟩
  rw [exec_tick, State.timerStep_eq_ite]
  rfl

/-- Settles O25: RX_ERROR is the timer step from an outcome that holds RX_IO_ERROR already. -/
theorem rxErrorRunsTheTimer : Obligations.RxErrorRunsTheTimer := by
  refine ⟨by decide, fun s => ?_⟩
  rw [exec_rxError, State.timerStep_eq_ite]
  rfl

end Sys2Proof.Machine
end

section
/-! Proofs/FrameReceived.lean: what the parser makes of the bytes of a whole frame (30_encoding.md R69, 40_receive.md R96 to
R98). The parser's registers hold the bytes of the frame in flight: a byte of the frame joins them and changes nothing that the
host sees, and the last byte completes the frame's message and checksum (O18). Noise before
the frame keeps what the frame depends on (O21). -/

namespace Sys2Proof.Machine

/-- Four checksum bytes stand for one word (R91). -/
theorem ckBytes_injective (order : CkOrder) : Function.Injective (ckBytes order) := by
  intro v w h
  rw [ckBytes_eq_lanes order w, ckBytes_eq_iff] at h
  exact h.symm.trans ((ckBytes_eq_iff ..).1 (ckBytes_eq_lanes order w))

theorem State.afterBytes_append (s : State) (xs ys : List Byte) :
    s.afterBytes (xs ++ ys) = (s.afterBytes xs).afterBytes ys := List.foldl_append

/-! ## The bytes that the parser holds -/

/-- The bytes of the frame in flight that the parser holds, in wire order: the matched part of the preamble, then RX_DST,
RX_SRC, RX_LEN, RX_BUF and RX_CK as far as they are received (R85 to R91). -/
def State.held (s : State) : List Byte :=
  match s.pstate with
  | .pre => s.pre.bytes.take s.pcount.toNat
  | .addr => s.pre.bytes ++ [s.rxDst].take s.pcount.toNat
  | .size => s.pre.bytes ++ [s.rxDst, s.rxSrc]
  | .payload => s.pre.bytes ++ ([s.rxDst, s.rxSrc, s.rxLen] ++ s.rxBuf.take s.pcount.toNat)
  | .cksum => s.pre.bytes ++ ([s.rxDst, s.rxSrc, s.rxLen] ++ s.rxPayload)
      ++ (ckBytes s.build.ckOrder s.rxCk).take s.pcount.toNat

section

variable {s : State}

theorem State.held_of_pre (hp : s.pstate = .pre) : s.held = s.pre.bytes.take s.pcount.toNat := by
  simp only [State.held, hp]

theorem State.held_of_addr (hp : s.pstate = .addr) : s.held = s.pre.bytes ++ [s.rxDst].take s.pcount.toNat := by
  simp only [State.held, hp]

theorem State.held_of_size (hp : s.pstate = .size) : s.held = s.pre.bytes ++ [s.rxDst, s.rxSrc] := by
  simp only [State.held, hp]

theorem State.held_of_payload (hp : s.pstate = .payload) :
    s.held = s.pre.bytes ++ ([s.rxDst, s.rxSrc, s.rxLen] ++ s.rxBuf.take s.pcount.toNat) := by
  simp only [State.held, hp]

theorem State.held_of_cksum (hp : s.pstate = .cksum) :
    s.held = s.pre.bytes ++ ([s.rxDst, s.rxSrc, s.rxLen] ++ s.rxPayload)
      ++ (ckBytes s.build.ckOrder s.rxCk).take s.pcount.toNat := by
  simp only [State.held, hp]

end

/-- The state without the parser's registers and IDLE_CNT: what a byte of a frame leaves alone until the last one. -/
def State.hostSide (s : State) : State :=
  { s with pstate := .pre, pcount := 0, rxDst := 0, rxSrc := 0, rxLen := 0, rxBuf := [], rxCk := 0, idleCnt := 0 }

@[simp] theorem State.beginEvent_hostSide_build (s : State) : s.beginEvent.hostSide.build = s.build := rfl

/-- A validated message is queued and counted (R92). -/
def State.queueMessage (s : State) (m : Message) : State := { s.push m with cntOk := s.cntOk + 1 }

theorem State.acceptFrame_eq_queueMessage (s : State) : s.acceptFrame = s.queueMessage s.rxMessage := rfl

/-- A frame with the checksum `rxCk`, where `fcs` is the checksum of its fields, is dropped and counted (R92). -/
def State.countMismatch (s : State) (rxCk fcs : Word32) : State :=
  { s.raise (.ckMismatch rxCk fcs) with cntCrcErr := s.cntCrcErr + 1 }

theorem State.dropOnMismatch_eq_countMismatch (s : State) : s.dropOnMismatch = s.countMismatch s.rxCk s.fcs := rfl

/-- What the host sees of two states with the same host side, whatever their outcomes. -/
theorem State.eq_of_hostSide_eq {s t : State} (h : s.beginEvent.hostSide = t.beginEvent.hostSide) :
    s.pre = t.pre ∧ s.build = t.build ∧ s.timeout = t.timeout ∧ s.q = t.q ∧ s.cntOk = t.cntOk
      ∧ s.cntCrcErr = t.cntCrcErr ∧ s.cntQDrop = t.cntQDrop ∧ s.cntLenClamp = t.cntLenClamp
      ∧ s.cntTimeout = t.cntTimeout :=
  ⟨(congrArg State.pre h :), (congrArg State.build h :), (congrArg State.timeout h :), (congrArg State.q h :),
    (congrArg State.cntOk h :), (congrArg State.cntCrcErr h :), (congrArg State.cntQDrop h :),
    (congrArg State.cntLenClamp h :), (congrArg State.cntTimeout h :)⟩

/-- Writing the element behind the first `n` and then taking one more. -/
theorem take_succ_set {α : Type} {l : List α} {n : Nat} (hn : n < l.length) (a : α) :
    (l.set n a).take (n + 1) = l.take n ++ [a] := by
  rw [List.take_add_one, List.take_set_of_le (Nat.le_refl n), List.getElem?_set_self hn, Option.toList_some]

/-- `y` is what the host side `x` becomes by the last byte of a frame: the frame's message is queued, or its drop is counted, as
the checksum bytes are those of its fields and as there is room (R92). -/
def State.FrameOutcome (x : State) (dst src : Byte) (payload ck : List Byte) (y : State) : Prop :=
  let fcs := checksumOf x.build.checksum (frameBody dst src payload)
  (ckBytes x.build.ckOrder fcs = ck ∧ x.hasRoom = true
      ∧ y = x.queueMessage { src := src, size := BitVec.ofNat 8 payload.length, payload := payload })
    ∨ (ckBytes x.build.ckOrder fcs = ck ∧ x.hasRoom = false ∧ y = x.dropOnFull)
    ∨ ∃ w, ckBytes x.build.ckOrder w = ck ∧ w ≠ fcs ∧ y = x.countMismatch w fcs

/-- A frame whose checksum bytes are those of its fields is queued where there is room. -/
theorem State.FrameOutcome.queued {x y : State} {dst src : Byte} {payload ck : List Byte}
    (h : x.FrameOutcome dst src payload ck y)
    (hck : ckBytes x.build.ckOrder (checksumOf x.build.checksum (frameBody dst src payload)) = ck) (hroom : x.hasRoom = true) :
    y = x.queueMessage { src := src, size := BitVec.ofNat 8 payload.length, payload := payload } := by
  obtain ⟨-, -, e⟩ | ⟨-, hfull, -⟩ | ⟨w, hw, hne, -⟩ := h
  · exact e
  · exact absurd (hroom.symm.trans hfull) (by decide)
  · exact absurd (ckBytes_injective _ (hw.trans hck.symm)) hne

/-! ## Inside a frame -/

/-- The parser is inside the frame with these fields and checksum bytes, or before its first byte: it holds the bytes received
so far, and the bytes `rest` are still to come. -/
structure State.InFrame (s : State) (dst src : Byte) (payload ck rest : List Byte) : Prop where
  inv : s.Inv
  fits : payload.length ≤ s.build.maxPayload
  ckLength : ck.length = 4
  bytes : s.held ++ rest = frameBytes s.pre dst src payload ck

theorem State.inFrame_of_atPre {s : State} (hinv : s.Inv) (hp : s.pstate = .pre) (hc : s.pcount = 0) (dst src : Byte)
    {payload ck : List Byte} (hfits : payload.length ≤ s.build.maxPayload) (hck : ck.length = 4) :
    s.InFrame dst src payload ck (frameBytes s.pre dst src payload ck) :=
  ⟨hinv, hfits, hck, by rw [State.held_of_pre hp, hc]; rfl⟩

namespace State.InFrame

variable {s : State} {dst src b : Byte} {payload ck rest : List Byte}

/-- The length byte of a frame that fits is its length (R8). -/
theorem lenByte_toNat (h : s.InFrame dst src payload ck rest) : (BitVec.ofNat 8 payload.length).toNat = payload.length := by
  obtain ⟨-, hmax, -⟩ := h.inv.legal
  have hfits := h.fits
  rw [BitVec.toNat_ofNat, Nat.mod_eq_of_lt (by omega)]

theorem beginEvent (h : s.InFrame dst src payload ck rest) : s.beginEvent.InFrame dst src payload ck rest :=
  ⟨h.inv.beginEvent, h.fits, h.ckLength, h.bytes⟩

/-! ### The bytes to come, by the parser's state -/

/-- The next byte of the preamble is the one that the detector compares with. -/
theorem eq_preGet (h : s.InFrame dst src payload ck (b :: rest)) (hp : s.pstate = .pre) : b = s.pre.get s.pcount := by
  have hcount := h.inv.preBound hp
  have hbytes := congrArg (·[s.pcount.toNat]?) h.bytes
  have hlt : s.pcount.toNat < s.pre.bytes.length := Nat.lt_succ_of_le hcount
  have hheld : (s.pre.bytes.take s.pcount.toNat).length = s.pcount.toNat := List.length_take_of_le hlt.le
  simp only [State.held_of_pre hp, frameBytes, List.append_assoc] at hbytes
  rw [List.getElem?_append_right hheld.le, hheld, Nat.sub_self, List.getElem?_append_left hlt,
    s.pre.get_eq s.pcount hcount] at hbytes
  exact Option.some.inj hbytes

/-- In SIZE the next byte is the length of the payload. -/
theorem eq_lenByte (h : s.InFrame dst src payload ck (b :: rest)) (hp : s.pstate = .size) :
    b = BitVec.ofNat 8 payload.length := by
  have hbytes := h.bytes
  simp only [State.held_of_size hp, frameBytes, frameBody, List.append_assoc, List.append_cancel_left_eq, List.cons_append,
    List.nil_append, List.cons.injEq] at hbytes
  obtain ⟨-, -, hb, -⟩ := hbytes
  exact hb

/-- In PAYLOAD RX_LEN is the length of the payload. -/
theorem rxLen_toNat_of_payload (h : s.InFrame dst src payload ck rest) (hp : s.pstate = .payload) :
    s.rxLen.toNat = payload.length := by
  have hbytes := h.bytes
  simp only [State.held_of_payload hp, frameBytes, frameBody, List.append_assoc, List.append_cancel_left_eq,
    List.cons_append, List.nil_append, List.cons.injEq] at hbytes
  obtain ⟨-, -, hlen, -⟩ := hbytes
  exact hlen ▸ h.lenByte_toNat

/-- In CKSUM the registers hold the fields of the frame, and the checksum bytes from PCOUNT on are to come. -/
theorem fields_of_cksum (h : s.InFrame dst src payload ck rest) (hp : s.pstate = .cksum) :
    s.rxMessage = { src := src, size := BitVec.ofNat 8 payload.length, payload := payload }
      ∧ s.fcs = checksumOf s.build.checksum (frameBody dst src payload)
      ∧ (ckBytes s.build.ckOrder s.rxCk).take s.pcount.toNat ++ rest = ck := by
  have hbytes := h.bytes
  simp only [State.held_of_cksum hp, frameBytes, frameBody, List.append_assoc, List.append_cancel_left_eq,
    List.cons_append, List.nil_append, List.cons.injEq] at hbytes
  obtain ⟨hdst, hsrc, hlen, hrest⟩ := hbytes
  obtain ⟨hpay, hck⟩ := List.append_inj hrest (by rw [h.inv.length_rxPayload, hlen, h.lenByte_toNat])
  refine ⟨?_, ?_, hck⟩
  · rw [State.rxMessage, hsrc, hlen, hpay]
  · rw [State.fcs, hdst, hsrc, hlen, hpay, frameBody]

/-- As many checksum bytes are to come as PCOUNT leaves of four. -/
theorem length_of_cksum (h : s.InFrame dst src payload ck rest) (hp : s.pstate = .cksum) :
    s.pcount.toNat + rest.length = 4 := by
  have hcount := h.inv.cksumBound hp
  obtain ⟨-, -, hck⟩ := h.fields_of_cksum hp
  have hlen := congrArg List.length hck
  rw [List.length_append, List.length_take_of_le (by rw [length_ckBytes]; omega), h.ckLength] at hlen
  exact hlen

/-! ### A byte before the last, one lemma for each parser state -/

theorem parse_pre (h : s.InFrame dst src payload ck (b :: rest)) (hp : s.pstate = .pre) :
    (s.parse b).held = s.held ++ [b] ∧ (s.parse b).hostSide = s.hostSide := by
  have hget := s.pre.get_eq s.pcount (h.inv.preBound hp)
  rw [← h.eq_preGet hp] at hget
  have hnext : s.pre.bytes.take (s.pcount.toNat + 1) = s.held ++ [b] := by
    rw [List.take_add_one, hget, State.held_of_pre hp, Option.toList_some]
  obtain ⟨-, h3, e⟩ | ⟨-, h3, e⟩ | ⟨hne, -⟩ := s.parse_pre b hp
  · rw [h3] at hnext
    refine ⟨?_, by rw [e]; rfl⟩
    rw [e, State.held_of_addr rfl]
    exact hnext
  · have hcount : (s.pcount + 1).toNat = s.pcount.toNat + 1 := by
      have := h.inv.preBound hp
      bv_omega
    refine ⟨?_, by rw [e]; rfl⟩
    rw [e, State.held_of_pre (by exact hp)]
    exact hcount ▸ hnext
  · exact absurd (h.eq_preGet hp) hne

theorem parse_addr (h : s.InFrame dst src payload ck (b :: rest)) (hp : s.pstate = .addr) :
    (s.parse b).held = s.held ++ [b] ∧ (s.parse b).hostSide = s.hostSide := by
  have hcount := h.inv.addrBound hp
  obtain ⟨h0, e⟩ | ⟨h0, e⟩ := s.parse_addr b hp
  · refine ⟨?_, by rw [e]; rfl⟩
    rw [e, State.held_of_addr (by exact hp), State.held_of_addr hp, h0]
    rfl
  · have h1 : s.pcount = 1 := by bv_omega
    refine ⟨?_, by rw [e]; rfl⟩
    rw [e, State.held_of_size rfl, State.held_of_addr hp, h1]
    rfl

theorem parse_size (h : s.InFrame dst src payload ck (b :: rest)) (hp : s.pstate = .size) :
    (s.parse b).held = s.held ++ [b] ∧ (s.parse b).hostSide = s.hostSide := by
  have hb : b.toNat = payload.length := h.eq_lenByte hp ▸ h.lenByte_toNat
  have hle : b.toNat ≤ s.build.maxPayload := hb ▸ h.fits
  obtain ⟨hlt, -⟩ | ⟨-, e⟩ := s.takeLength_spec b
  · omega
  · rw [clampLen, if_neg (by omega)] at e
    rw [s.parse_size b hp, e]
    refine ⟨?_, rfl⟩
    by_cases hzero : b = 0
    · rw [State.held_of_cksum (by rw [State.leaveSize_pstate, if_pos hzero]), State.held_of_size hp, hzero]
      rfl
    · rw [State.held_of_payload (by rw [State.leaveSize_pstate, if_neg hzero]), State.held_of_size hp]
      rfl

theorem parse_payload (h : s.InFrame dst src payload ck (b :: rest)) (hp : s.pstate = .payload) :
    (s.parse b).held = s.held ++ [b] ∧ (s.parse b).hostSide = s.hostSide := by
  obtain ⟨-, hcount⟩ := h.inv.payloadBound hp
  have hindex : s.pcount.toNat < s.rxBuf.length := h.inv.bufLength ▸ hcount.trans_le h.inv.lenBound
  have hbuf := take_succ_set hindex b
  rw [State.held_of_payload hp, List.append_assoc, List.append_assoc, ← hbuf]
  obtain ⟨hlast, e⟩ | ⟨hmore, e⟩ := s.parse_payload b hp
  · refine ⟨?_, by rw [e]; rfl⟩
    rw [e, State.held_of_cksum rfl, hlast]
    exact List.append_nil _
  · have hnext : (s.pcount + 1).toNat = s.pcount.toNat + 1 := by bv_omega
    refine ⟨?_, by rw [e]; rfl⟩
    rw [e, State.held_of_payload (by exact hp), ← hnext]

theorem parse_cksum (h : s.InFrame dst src payload ck (b :: rest)) (hrest : rest ≠ []) (hp : s.pstate = .cksum) :
    (s.parse b).held = s.held ++ [b] ∧ (s.parse b).hostSide = s.hostSide := by
  have hlen := h.length_of_cksum hp
  have hpos := List.length_pos_of_ne_nil hrest
  rw [List.length_cons] at hlen
  obtain ⟨hlt, e⟩ | ⟨hlast, -⟩ := s.parse_cksum b hp
  · have hnext : (s.pcount + 1).toNat = s.pcount.toNat + 1 := by bv_omega
    have hset := take_succ_set (l := ckBytes s.build.ckOrder s.rxCk) (n := s.pcount.toNat) (by rw [length_ckBytes]; omega) b
    refine ⟨?_, by rw [e]; rfl⟩
    rw [State.held_of_cksum hp, List.append_assoc, ← hset, ← ckBytes_putCkByte _ (by omega : s.pcount.toNat < 4), ← hnext, e,
      State.held_of_cksum (by exact hp)]
    rfl
  · omega

theorem parse (h : s.InFrame dst src payload ck (b :: rest)) (hrest : rest ≠ []) :
    (s.parse b).held = s.held ++ [b] ∧ (s.parse b).hostSide = s.hostSide := by
  cases hp : s.pstate with
  | pre => exact h.parse_pre hp
  | addr => exact h.parse_addr hp
  | size => exact h.parse_size hp
  | payload => exact h.parse_payload hp
  | cksum => exact h.parse_cksum hrest hp

/-- A byte before the last joins the bytes held, raises no condition, and leaves P, Q, the counters and TIMEOUT. -/
theorem afterByte (h : s.InFrame dst src payload ck (b :: rest)) (hrest : rest ≠ []) :
    (s.afterByte b).InFrame dst src payload ck rest ∧ (s.afterByte b).hostSide = s.beginEvent.hostSide := by
  obtain ⟨hheld, hhost⟩ := h.beginEvent.parse hrest
  obtain ⟨hpre, hbuild, -⟩ : (s.afterByte b).pre = s.pre ∧ (s.afterByte b).build = s.build ∧ _ :=
    State.eq_of_hostSide_eq (congrArg State.beginEvent hhost)
  refine ⟨⟨h.inv.afterByte b, hbuild ▸ h.fits, h.ckLength, ?_⟩, hhost⟩
  calc (s.afterByte b).held ++ rest
      = s.held ++ [b] ++ rest := congrArg (· ++ rest) hheld
    _ = frameBytes (s.afterByte b).pre dst src payload ck := by rw [List.append_assoc, hpre]; exact h.bytes

/-- By induction on the bytes taken in. -/
theorem afterBytes {xs : List Byte} (h : s.InFrame dst src payload ck (xs ++ rest)) (hrest : rest ≠ []) :
    (s.afterBytes xs).InFrame dst src payload ck rest
      ∧ (s.afterBytes xs).beginEvent.hostSide = s.beginEvent.hostSide := by
  induction xs generalizing s with
  | nil => exact ⟨h, rfl⟩
  | cons x xs ih =>
    obtain ⟨hx, hhost⟩ := h.afterByte (by simp [hrest])
    obtain ⟨hxs, hhost'⟩ := ih hx
    exact ⟨hxs, hhost'.trans (congrArg State.beginEvent hhost)⟩

/-! ### The last byte -/

/-- The last byte of a frame is the fourth checksum byte: in every other position more bytes are to come. -/
theorem atLast (h : s.InFrame dst src payload ck [b]) : s.pstate = .cksum ∧ s.pcount.toNat = 3 := by
  have hlen := congrArg List.length h.bytes
  simp only [List.length_append, frameBytes, frameBody, Preamble.bytes, h.ckLength, List.length_cons, List.length_nil] at hlen
  cases hp : s.pstate with
  | pre =>
    simp only [State.held_of_pre hp, List.length_take, Preamble.bytes, List.length_cons, List.length_nil] at hlen
    omega
  | addr =>
    simp only [State.held_of_addr hp, List.length_append, List.length_take, Preamble.bytes, List.length_cons,
      List.length_nil] at hlen
    omega
  | size =>
    simp only [State.held_of_size hp, List.length_append, Preamble.bytes, List.length_cons, List.length_nil] at hlen
    omega
  | payload =>
    obtain ⟨-, hcount⟩ := h.inv.payloadBound hp
    have hfield := h.rxLen_toNat_of_payload hp
    simp only [State.held_of_payload hp, List.length_append, List.length_take, Preamble.bytes, List.length_cons,
      List.length_nil] at hlen
    omega
  | cksum =>
    have hck := h.length_of_cksum hp
    rw [List.length_singleton] at hck
    exact ⟨rfl, by omega⟩

/-- The last byte has the frame checked. -/
theorem afterByte_last (h : s.InFrame dst src payload ck [b]) :
    s.afterByte b = (s.beginEvent.takeCkByte b).checkFrame.restartIdle := by
  obtain ⟨hp, hc⟩ := h.atLast
  exact State.afterByte_fourthCkByte hp (BitVec.eq_of_toNat_eq hc) b

/-- With the last byte the registers hold the whole frame: its message, its checksum, and its checksum bytes. -/
theorem takeCkByte_last (h : s.InFrame dst src payload ck [b]) :
    (s.beginEvent.takeCkByte b).rxMessage = { src := src, size := BitVec.ofNat 8 payload.length, payload := payload }
      ∧ (s.beginEvent.takeCkByte b).fcs = checksumOf s.build.checksum (frameBody dst src payload)
      ∧ ckBytes s.build.ckOrder (s.beginEvent.takeCkByte b).rxCk = ck := by
  obtain ⟨hp, hc⟩ := h.atLast
  obtain ⟨hmsg, hfcs, hck⟩ := h.fields_of_cksum hp
  refine ⟨hmsg, hfcs, ?_⟩
  have hlt : s.pcount.toNat < (ckBytes s.build.ckOrder s.rxCk).length := by rw [length_ckBytes]; omega
  have htake := take_succ_set hlt b
  rw [← ckBytes_putCkByte _ (by omega), hck, hc, List.take_of_length_le (by rw [length_ckBytes])] at htake
  exact htake

/-- The last byte queues the frame's message or counts its drop. -/
theorem frameOutcome_last (h : s.InFrame dst src payload ck [b]) :
    s.beginEvent.hostSide.FrameOutcome dst src payload ck (s.afterByte b).hostSide := by
  obtain ⟨hmsg, hfcs, hck⟩ := h.takeCkByte_last
  rw [h.afterByte_last]
  obtain ⟨hmatch, hroom, e⟩ | ⟨hmatch, hroom, e⟩ | ⟨hmatch, e⟩ := (s.beginEvent.takeCkByte b).checkFrame_spec
  · rw [hmatch, hfcs] at hck
    refine .inl ⟨hck, hroom, ?_⟩
    rw [e, State.acceptFrame_eq_queueMessage, hmsg]
    rfl
  · rw [hmatch, hfcs] at hck
    refine .inr (.inl ⟨hck, hroom, ?_⟩)
    rw [e]
    rfl
  · rw [hfcs] at hmatch
    refine .inr (.inr ⟨_, hck, hmatch, ?_⟩)
    rw [e, State.dropOnMismatch_eq_countMismatch, hfcs]
    rfl

/-- The integrity check leaves the parser at (PRE, 0), whatever its outcome. -/
theorem atPre_last (h : s.InFrame dst src payload ck [b]) :
    (s.afterByte b).pstate = .pre ∧ (s.afterByte b).pcount = 0 := by
  rw [h.afterByte_last]
  exact ⟨rfl, rfl⟩

end State.InFrame

/-! ## A frame, byte after byte (R97) -/

/-- From (PRE, 0) the bytes of a frame lead back there: those before the last leave what the host sees, and the last one has the
frame's outcome. -/
theorem State.afterBytes_frameBytes {s : State} (hinv : s.Inv) (hp : s.pstate = .pre) (hc : s.pcount = 0) (dst src : Byte)
    {payload ck : List Byte} (hfits : payload.length ≤ s.build.maxPayload) (hck : ck.length = 4) :
    ∃ t, s.afterBytes (frameBytes s.pre dst src payload ck) = t ∧ t.pstate = .pre ∧ t.pcount = 0
      ∧ s.beginEvent.hostSide.FrameOutcome dst src payload ck t.hostSide := by
  have hstart := State.inFrame_of_atPre hinv hp hc dst src hfits hck
  obtain rfl | ⟨ckBefore, last, rfl⟩ := ck.eq_nil_or_concat'
  · cases hck
  · rw [frameBytes, ← List.append_assoc] at hstart ⊢
    obtain ⟨hlast, hhost⟩ := hstart.afterBytes (List.cons_ne_nil last [])
    obtain ⟨hpre, hcount⟩ := hlast.atPre_last
    exact ⟨_, s.afterBytes_append _ _, hpre, hcount, hhost ▸ hlast.frameOutcome_last⟩

/-- Settles O18: the frame's outcome, with the word that the four checksum bytes stand for. -/
theorem frameIsQueuedIffItsChecksumMatches : Obligations.FrameIsQueuedIffItsChecksumMatches := by
  intro s dst src payload c0 c1 c2 c3 hinv hp hc hfits size fcs ck room
  obtain ⟨t, ht, hpre, hcount, hout⟩ := State.afterBytes_frameBytes (ck := [c0, c1, c2, c3]) hinv hp hc dst src hfits rfl
  obtain ⟨obs, hrun⟩ := runEvents_rxBytes (frameBytes s.pre dst src payload [c0, c1, c2, c3]) s
  refine ⟨t, obs, ht ▸ hrun, hpre, hcount, ?_⟩
  have hroom : s.hasRoom = true ↔ room := s.hasRoom_iff
  simp only [State.FrameOutcome, ckBytes_eq_iff] at hout
  obtain ⟨(hck : ck = fcs), (hr : s.hasRoom = true), e⟩ | ⟨(hck : ck = fcs), (hr : s.hasRoom = false), e⟩
    | ⟨w, (hw : ck = w), (hne : w ≠ fcs), e⟩ := hout
  · obtain ⟨hp, hbuild, htimeout, hq, hok, hcrcerr, hqdrop, hclamp, htmo⟩ :=
      State.eq_of_hostSide_eq (t := s.queueMessage _) (congrArg State.beginEvent e)
    refine ⟨hp, hbuild, htimeout, hclamp, htmo, ?_⟩
    rw [if_pos hck]
    exact ⟨fun _ => ⟨hq, hok, hcrcerr, hqdrop⟩, fun hno => absurd (hroom.1 hr) hno⟩
  · obtain ⟨hp, hbuild, htimeout, hq, hok, hcrcerr, hqdrop, hclamp, htmo⟩ :=
      State.eq_of_hostSide_eq (t := s.dropOnFull) (congrArg State.beginEvent e)
    refine ⟨hp, hbuild, htimeout, hclamp, htmo, ?_⟩
    rw [if_pos hck]
    exact ⟨fun hyes => absurd (hroom.2 hyes) (by rw [hr]; decide), fun _ => ⟨hq, hqdrop, hok, hcrcerr⟩⟩
  · obtain ⟨hp, hbuild, htimeout, hq, hok, hcrcerr, hqdrop, hclamp, htmo⟩ :=
      State.eq_of_hostSide_eq (t := s.countMismatch w fcs) (congrArg State.beginEvent e)
    refine ⟨hp, hbuild, htimeout, hclamp, htmo, ?_⟩
    rw [if_neg fun heq => hne (hw.symm.trans heq)]
    exact ⟨hq, hcrcerr, hok, hqdrop⟩

/-! ## An encoded frame (R96) -/

/-- A payload that fits is encoded whole, with the checksum of its fields (R70). -/
theorem encodeFrame_of_fits (b : Build) (p : Preamble) (dst src : Byte) {data : List Byte}
    (hfits : data.length ≤ b.maxPayload) :
    encodeFrame b p dst src data =
      frameBytes p dst src data (ckBytes b.ckOrder (checksumOf b.checksum (frameBody dst src data))) := by
  rw [encodeFrame, Nat.min_eq_left hfits, List.take_length]

/-- From (PRE, 0) with room the bytes of an encoded frame queue its message. -/
theorem State.afterBytes_encodeFrame {s : State} (hinv : s.Inv) (hp : s.pstate = .pre) (hc : s.pcount = 0) (dst src : Byte)
    {data : List Byte} (hfits : data.length ≤ s.build.maxPayload) (hroom : s.hasRoom = true) :
    ∃ t, s.afterBytes (encodeFrame s.build s.pre dst src data) = t ∧ t.pstate = .pre ∧ t.pcount = 0
      ∧ t.hostSide = s.beginEvent.hostSide.queueMessage
        { src := src, size := BitVec.ofNat 8 data.length, payload := data } := by
  rw [encodeFrame_of_fits _ _ _ _ hfits]
  obtain ⟨t, ht, hpre, hcount, hout⟩ := State.afterBytes_frameBytes hinv hp hc dst src hfits (length_ckBytes ..)
  exact ⟨t, ht, hpre, hcount, hout.queued rfl hroom⟩

/-! ## Noise before a frame (R98) -/

/-- No byte changes P or the build. -/
theorem State.parse_keeps_pre_and_build (s : State) (b : Byte) : (s.parse b).pre = s.pre ∧ (s.parse b).build = s.build := by
  cases hp : s.pstate with
  | pre =>
    obtain ⟨-, -, e⟩ | ⟨-, -, e⟩ | ⟨-, e⟩ := s.parse_pre b hp
    all_goals rw [e]; exact ⟨rfl, rfl⟩
  | addr =>
    obtain ⟨-, e⟩ | ⟨-, e⟩ := s.parse_addr b hp
    all_goals rw [e]; exact ⟨rfl, rfl⟩
  | size =>
    rw [s.parse_size b hp]
    obtain ⟨-, e⟩ | ⟨-, e⟩ := s.takeLength_spec b
    all_goals rw [e]; exact ⟨rfl, rfl⟩
  | payload =>
    obtain ⟨-, e⟩ | ⟨-, e⟩ := s.parse_payload b hp
    all_goals rw [e]; exact ⟨rfl, rfl⟩
  | cksum =>
    obtain ⟨-, e⟩ | ⟨-, e⟩ := s.parse_cksum b hp
    · rw [e]
      exact ⟨rfl, rfl⟩
    · rw [e]
      obtain ⟨-, -, e⟩ | ⟨-, -, e⟩ | ⟨-, e⟩ := (s.takeCkByte b).checkFrame_spec
      all_goals rw [e]; exact ⟨rfl, rfl⟩

/-- By induction on the bytes: a run of bytes keeps the invariants, P and the build. -/
theorem State.Inv.afterBytes {s : State} (h : s.Inv) (bs : List Byte) :
    (s.afterBytes bs).Inv ∧ (s.afterBytes bs).pre = s.pre ∧ (s.afterBytes bs).build = s.build := by
  induction bs generalizing s with
  | nil => exact ⟨h, rfl, rfl⟩
  | cons b bs ih =>
    obtain ⟨hpre, hbuild⟩ := s.beginEvent.parse_keeps_pre_and_build b
    obtain ⟨hinv, hpre', hbuild'⟩ := ih (h.afterByte b)
    exact ⟨hinv, hpre'.trans hpre, hbuild'.trans hbuild⟩

/-- Settles O21: the frame meets a state that the noise has left with the same preamble, build and queue at (PRE, 0), and from
there its outcome is that of O18. -/
theorem noiseLeavesNoTrace : Obligations.NoiseLeavesNoTrace := by
  intro s u obs noise dst src data hinv hp hc hnoise hup huc huq hfits hroom
  obtain ⟨_, hrun⟩ := runEvents_rxBytes noise s
  cases hrun.symm.trans hnoise
  obtain ⟨hinv', hpre, hbuild⟩ := hinv.afterBytes noise
  have hroom' : (s.afterBytes noise).hasRoom = true := by
    rw [State.hasRoom_iff, hbuild, huq]
    exact hroom
  obtain ⟨t, ht, htp, htc, e⟩ := State.afterBytes_encodeFrame hinv' hup huc dst src (hbuild ▸ hfits) hroom'
  rw [hpre, hbuild] at ht
  obtain ⟨-, -, -, hq, -⟩ := State.eq_of_hostSide_eq (t := (s.afterBytes noise).queueMessage _) (congrArg State.beginEvent e)
  obtain ⟨obs', hrun'⟩ := runEvents_rxBytes (noise ++ encodeFrame s.build s.pre dst src data) s
  refine ⟨t, obs', ?_, ?_, htp, htc⟩
  · rw [hrun', State.afterBytes_append, ht]
  · rw [hq, ← huq]
    rfl

end Sys2Proof.Machine
end

section
/-! Proofs/FrameInterleaved.lean: a frame with the events that 40_receive.md R96 allows between its bytes. Such an event leaves
the parser's registers, P and the build, and makes Q no longer, so the parser stays at its place in the frame and the room
stays; the last byte then queues the message (O20). -/

namespace Sys2Proof.Machine

/-! ## The events that R96 allows -/

/-- Only the parser's registers, P and the build are left of the state: what the events that R96 allows between the bytes of a
frame keep. -/
def State.parserSide (s : State) : State :=
  { s with
    q := [], cntOk := 0, cntCrcErr := 0, cntQDrop := 0, cntLenClamp := 0, cntTimeout := 0, timeout := 0, idleCnt := 0
    input := [], outcome := { readData := none, conditions := [] } }

/-- `t` has the parser's registers, P and the build of `s`, and a queue of messages of `s`. -/
def State.KeepsFrame (s t : State) : Prop := t.parserSide = s.parserSide ∧ t.q <:+ s.q

theorem State.keepsFrame_of_timerStep {s : State} (h : ∀ c ∈ s.timerStep.outcome.conditions, c.code ≠ 7) :
    s.KeepsFrame s.timerStep := by
  obtain ⟨-, e⟩ | ⟨-, -, -, e⟩ | ⟨-, -, -, e⟩ := s.timerStep_spec
  · exact e ▸ ⟨rfl, List.suffix_rfl⟩
  · refine absurd rfl (h (.timeoutResync s.pstate s.pcount) ?_)
    rw [e]
    exact List.mem_append_right _ (List.mem_singleton_self _)
  · exact e ▸ ⟨rfl, List.suffix_rfl⟩

theorem State.keepsFrame_of_pop (s : State) : s.KeepsFrame s.pop := by
  obtain ⟨-, e⟩ | ⟨m, rest, hq, e⟩ := s.pop_spec
  · exact e ▸ ⟨rfl, List.suffix_rfl⟩
  · exact e ▸ ⟨rfl, hq ▸ List.suffix_cons m rest⟩

theorem State.KeepsFrame.trans {s t u : State} (h : s.KeepsFrame t) (h' : t.KeepsFrame u) : s.KeepsFrame u :=
  ⟨h'.1.trans h.1, h'.2.trans h.2⟩

/-- A command that its bit of CTRL selects or leaves out. -/
theorem State.KeepsFrame.select {s t : State} (c : Bool) (h : s.KeepsFrame t) : s.KeepsFrame (if c then t else s) := by
  cases c with
  | true => exact h
  | false => exact ⟨rfl, List.suffix_rfl⟩

/-- Every CTRL command but RESYNC leaves the frame in flight (R112). -/
theorem State.keepsFrame_of_runCommands (s : State) {v : Word32} (hv : v.getLsbD 2 = false) :
    s.KeepsFrame (s.runCommands v) := by
  have hclear : ∀ u : State, u.KeepsFrame u.clear := fun u => ⟨rfl, List.nil_suffix⟩
  have hcounters : ∀ u : State, u.KeepsFrame u.clearCounters := fun u => ⟨rfl, List.suffix_rfl⟩
  simp only [State.runCommands, hv, Bool.false_eq_true, if_false]
  exact (s.keepsFrame_of_pop.select _).trans (((hclear _).select _).trans ((hcounters _).select _))

/-- An event that R96 allows between the bytes leaves the frame in flight, unless the timeout fires. -/
theorem exec_keepsFrame {i : Instr} {s t : State} (hi : allowedInFrame i = true) (hb : deliveredByte i = none)
    (h : exec i s = .next t) (hno : ∀ c ∈ t.outcome.conditions, c.code ≠ 7) : s.KeepsFrame t := by
  have hbegin : s.KeepsFrame s.beginEvent := ⟨rfl, List.suffix_rfl⟩
  cases i with
  | rxByte b => cases hb
  | wrPreamble v => cases hi
  | reset => cases hi
  | tick =>
    cases (exec_tick s).symm.trans h
    exact hbegin.trans (State.keepsFrame_of_timerStep hno)
  | rxError =>
    cases (exec_rxError s).symm.trans h
    exact (hbegin.trans (t := s.beginEvent.raise .rxIoError) hbegin).trans (State.keepsFrame_of_timerStep hno)
  | wrCtrl v =>
    have hv : v.getLsbD 2 = false := (Bool.not_eq_eq_eq_not ..).mp hi
    cases (exec_wrCtrl s v).symm.trans h
    exact hbegin.trans (s.beginEvent.keepsFrame_of_runCommands hv)
  | wrTimeout | wrIgnored | rdPreamble | rdCtrl | rdStatus | rdHeadInfo | rdCntOk | rdCntCrcErr | rdCntQDrop | rdCntLenClamp
  | rdCntTimeout | rdTimeout | rdParams | rdHeadData | rdReserved =>
    cases h
    exact ⟨rfl, List.suffix_rfl⟩

theorem deliveredByte_eq_some {i : Instr} {b : Byte} (h : deliveredByte i = some b) : i = .rxByte b := by
  cases i with
  | rxByte c => exact congrArg Instr.rxByte (Option.some.inj h)
  | _ => cases h

/-- A shorter queue of the same block has room where the longer one has. -/
theorem State.hasRoom_of_suffix {s t : State} (hq : t.q <:+ s.q) (hb : t.build = s.build) (h : s.hasRoom = true) :
    t.hasRoom = true := by
  rw [State.hasRoom_iff] at h ⊢
  exact fun n hn => hq.length_le.trans_lt (h n (hb ▸ hn))

/-! ## A run inside a frame -/

namespace State.InFrame

variable {s t : State} {dst src : Byte} {payload ck rest : List Byte}

/-- The place in the frame is kept with the parser's registers. -/
theorem keepsFrame (h : s.InFrame dst src payload ck rest) (ht : t.Inv) (hkeep : s.KeepsFrame t) :
    t.InFrame dst src payload ck rest := by
  obtain ⟨hside, -⟩ := hkeep
  have hheld : t.held = s.held := (congrArg State.held hside :)
  have hpre : t.pre = s.pre := (congrArg State.pre hside :)
  have hbuild : t.build = s.build := (congrArg State.build hside :)
  exact ⟨ht, hbuild ▸ h.fits, h.ckLength, by rw [hheld, hpre]; exact h.bytes⟩

/-- An event that R96 allows takes its byte of the frame, if it has one, and keeps the room in Q. -/
theorem exec {i : Instr} (h : s.InFrame dst src payload ck ((deliveredByte i).toList ++ rest)) (hrest : rest ≠ [])
    (hi : allowedInFrame i = true) (hexec : exec i s = .next t) (hno : ∀ c ∈ t.outcome.conditions, c.code ≠ 7) :
    t.InFrame dst src payload ck rest ∧ t.build = s.build ∧ (s.hasRoom = true → t.hasRoom = true) := by
  obtain ⟨u, hu, hinv⟩ := exec_next_inv i h.inv
  cases hu.symm.trans hexec
  cases hb : deliveredByte i with
  | some b =>
    cases deliveredByte_eq_some hb
    cases (exec_rxByte_eq_afterByte s b).symm.trans hexec
    obtain ⟨hframe, hhost⟩ := h.afterByte hrest
    obtain ⟨-, hbuild, -, hq, -⟩ := State.eq_of_hostSide_eq (congrArg State.beginEvent hhost)
    exact ⟨hframe, hbuild, State.hasRoom_of_suffix (hq ▸ List.suffix_rfl) hbuild⟩
  | none =>
    rw [hb] at h
    obtain ⟨hside, hq⟩ := exec_keepsFrame hi hb hexec hno
    have hbuild : t.build = s.build := (congrArg State.build hside :)
    exact ⟨h.keepsFrame hinv ⟨hside, hq⟩, hbuild, State.hasRoom_of_suffix hq hbuild⟩

/-- By induction on the events before the last byte. -/
theorem run {is : List Instr} {obs : List Observation}
    (h : s.InFrame dst src payload ck (is.filterMap deliveredByte ++ rest)) (hrest : rest ≠ [])
    (hall : ∀ i ∈ is, allowedInFrame i = true) (hrun : runEvents is s = .next (t, obs)) (hno : noTimeoutFired obs) :
    t.InFrame dst src payload ck rest ∧ t.build = s.build ∧ (s.hasRoom = true → t.hasRoom = true) := by
  induction is generalizing s obs with
  | nil =>
    cases hrun
    exact ⟨h, rfl, id⟩
  | cons i is ih =>
    obtain ⟨u, hu, hrun⟩ := andThen_eq_next (runEvents_cons s i is ▸ hrun)
    obtain ⟨⟨v, obs'⟩, hv, hrun⟩ := andThen_eq_next hrun
    cases hrun
    obtain ⟨hnou, hnov⟩ := List.forall_mem_cons.1 hno
    obtain ⟨hi, his⟩ := List.forall_mem_cons.1 hall
    have hsplit : (i :: is).filterMap deliveredByte ++ rest
        = (deliveredByte i).toList ++ (is.filterMap deliveredByte ++ rest) := by
      rw [List.filterMap_cons]
      cases deliveredByte i with
      | none => rfl
      | some b => rfl
    obtain ⟨hframe, hbuild, hroom⟩ := (hsplit ▸ h).exec (by simp [hrest]) hi hu hnou
    obtain ⟨hframe', hbuild', hroom'⟩ := ih hframe his hv hnov
    exact ⟨hframe', hbuild'.trans hbuild, fun hs => hroom' (hroom hs)⟩

end State.InFrame

/-- Every run of events completes (R128). -/
theorem exists_runEvents_eq_next (is : List Instr) (s : State) : ∃ t obs, runEvents is s = .next (t, obs) := by
  induction is generalizing s with
  | nil => exact ⟨s, [], rfl⟩
  | cons i is ih =>
    obtain ⟨t, ht, -⟩ := exec_next_withTrace i s
    obtain ⟨u, obs, hu⟩ := ih t
    exact ⟨u, t.observation :: obs, by rw [runEvents_cons, ht, andThen_next, hu, andThen_next]⟩

/-- What is observed in the first events of a run is observed in the run. -/
theorem noTimeoutFired_take {is : List Instr} {s t u : State} {obs obs' : List Observation} (n : Nat)
    (hrun : runEvents is s = .next (t, obs)) (hno : noTimeoutFired obs)
    (htake : runEvents (is.take n) s = .next (u, obs')) : noTimeoutFired obs' := by
  rw [← List.take_append_drop n is, runEvents_append, htake, andThen_next] at hrun
  obtain ⟨⟨v, rest⟩, -, hrun⟩ := andThen_eq_next hrun
  cases hrun
  exact fun o ho => hno o (List.mem_append_left rest ho)

/-- Settles O20: up to the last byte the parser is in the frame with the remaining bytes to come, so each byte before it leaves
Q and CNT_OK, and the last one queues the message. -/
theorem frameRoundTripInterleaved : Obligations.FrameRoundTripInterleaved := by
  intro s dst src last data before hinv hp hc hfits hroom hbytes hallowed hquiet
  obtain ⟨u, obs, hrun⟩ := exists_runEvents_eq_next before s
  have hno := hquiet u obs hrun
  have hstart := State.inFrame_of_atPre hinv hp hc dst src hfits
    (length_ckBytes s.build.ckOrder (checksumOf s.build.checksum (frameBody dst src data)))
  rw [← encodeFrame_of_fits _ _ _ _ hfits, ← hbytes] at hstart
  obtain ⟨hframe, hbuild, hroom'⟩ := hstart.run (List.cons_ne_nil last []) hallowed hrun hno
  obtain ⟨hpre, hcount⟩ := hframe.atPre_last
  have e := hframe.frameOutcome_last.queued (by rw [State.beginEvent_hostSide_build, hbuild]) (hroom' (s.hasRoom_iff.2 hroom))
  obtain ⟨-, -, -, hq, hok, -⟩ := State.eq_of_hostSide_eq (t := u.queueMessage _) (congrArg State.beginEvent e)
  refine ⟨u, obs, _, hrun, exec_rxByte_eq_afterByte u last, hq, hok, hpre, hcount, ?_⟩
  intro n v v' b obs' hrunv hn hv'
  cases (exec_rxByte_eq_afterByte v b).symm.trans hv'
  have hdrop : before.filterMap deliveredByte ++ [last]
      = (before.take n).filterMap deliveredByte ++ (b :: ((before.drop (n + 1)).filterMap deliveredByte ++ [last])) := by
    obtain ⟨hlt, hget⟩ := List.getElem?_eq_some_iff.1 hn
    conv_lhs => rw [← List.take_append_drop n before, List.drop_eq_getElem_cons hlt, hget]
    rw [List.filterMap_append, List.append_assoc]
    rfl
  rw [hdrop] at hstart
  obtain ⟨hv, -⟩ := hstart.run (List.cons_ne_nil b _) (fun i hi => hallowed i (List.mem_of_mem_take hi)) hrunv
    (noTimeoutFired_take n hrun hno hrunv)
  obtain ⟨-, hhost⟩ := hv.afterByte (by simp)
  obtain ⟨-, -, -, hq, hok, -⟩ := State.eq_of_hostSide_eq (congrArg State.beginEvent hhost)
  exact ⟨hq, hok⟩

end Sys2Proof.Machine
end

section
/-! Proofs/QueueReads.lean: what the host sees of the oldest message (41_queue.md R105, R106): the lanes of HEAD_INFO (O28) and
of HEAD_DATA[k] (O29), from the words that Laws/Operands.lean gives them. -/

namespace Sys2Proof.Machine

/-! ## HEAD_INFO (R105) -/

/-- The upper half of HEAD_INFO is reserved and reads 0 (R41). -/
theorem extract_upper_half_append (size src : Byte) : (0#8 ++ 0#8 ++ size ++ src : Word32).extractLsb' 16 16 = 0 := by
  apply BitVec.eq_of_getLsbD_eq
  intro i hi
  simp only [BitVec.getLsbD_extractLsb', BitVec.getLsbD_append]
  simp [show ¬ 16 + i < 8 by omega, show ¬ 16 + i - 8 < 8 by omega]

/-- Settles O28: the source and the size of the head are the two low lanes of the word. -/
theorem headInfoRead : Obligations.HeadInfoRead := by
  refine ⟨by decide, fun s => ⟨s.headInfoWord, exec_rdHeadInfo s, ?_⟩⟩
  cases hq : s.q with
  | nil => exact headInfoWord_of_nil hq
  | cons m rest =>
    rw [headInfoWord_of_cons hq]
    exact ⟨getLane_append 0 0 m.size m.src 0 (by decide), getLane_append 0 0 m.size m.src 1 (by decide),
      extract_upper_half_append m.size m.src⟩

/-! ## HEAD_DATA[k] (R106) -/

/-- A read at the address 0x100 + 4k is the read of HEAD_DATA[k] (R45, R106). -/
theorem readRow_headDataAddr (k : BitVec 6) : readRow (headDataAddr k) = .rdHeadData k := by
  rw [readRow, csrReg_headDataAddr]

/-- The bits of a HEAD_DATA read are those of its trace word (R45, R73). -/
theorem append_eq_headData_word (k : BitVec 6) :
    (0x3#4 ++ 0x1#4 ++ k ++ 0#34 : TraceWord) = (CsrAccess.read (headDataAddr k)).word := by
  revert k
  decide

/-- A payload byte of the head as R106 states it: the payload's own byte within its size, and 0 beyond. -/
theorem some_headByte_of_cons {s : State} {m : Message} {rest : List Message} (i : Nat) (h : s.q = m :: rest)
    (hm : m.payload.length = m.size.toNat) :
    some (s.headByte i) = if i < m.size.toNat then m.payload[i]? else some 0 := by
  rw [headByte_of_cons i h hm, List.getD_eq_getElem?_getD, ← hm]
  split
  · next hi => rw [List.getElem?_eq_getElem hi, Option.getD_some]
  · next hi => rw [List.getElem?_eq_none (by omega), Option.getD_none]

/-- Settles O29: lane `j` of the word is byte `4k + j` of the head, which by R35 has `size` payload bytes. -/
theorem headDataRead : Obligations.HeadDataRead := by
  intro s k hinv
  constructor
  · rw [append_eq_headData_word, CsrAccess.decode_word, CsrAccess.instr, readRow_headDataAddr]
  · refine ⟨s.headDataWord k.toNat, exec_rdHeadData s k, fun j hj => ?_⟩
    rw [← getLane, getLane_headDataWord s k.toNat j hj]
    cases hq : s.q with
    | nil => rw [headByte_of_nil _ hq]
    | cons m rest =>
      obtain ⟨hsize, -⟩ := hinv.messages m (hq ▸ List.mem_cons_self)
      exact some_headByte_of_cons _ hq hsize

end Sys2Proof.Machine
end

section
/-! Proofs/QueueChanges.lean: Q after each event (41_queue.md R99, R101). A rule for each operation that an event runs says what
it makes of Q; the producer is the integrity check of RX_BYTE, and the consumers are POP, CLEAR and RESET (O32). -/

namespace Sys2Proof.Machine

/-! ## Q after each operation -/

/-- The timer step leaves Q (R138). -/
@[simp] theorem State.timerStep_q (s : State) : s.timerStep.q = s.q := by
  obtain ⟨-, e⟩ | ⟨-, -, -, e⟩ | ⟨-, -, -, e⟩ := s.timerStep_spec
  all_goals exact e ▸ rfl

/-- POP leaves the tail, which of an empty queue is empty (R103). -/
@[simp] theorem State.pop_q (s : State) : s.pop.q = s.q.tail := by
  obtain ⟨hq, e⟩ | ⟨m, rest, hq, e⟩ := s.pop_spec
  · rw [e, State.raise_q, hq, List.tail_nil]
  · rw [e, hq, List.tail_cons]

/-- CLEAR comes after POP, and RESYNC and CNT_CLR leave Q (R112). -/
theorem State.runCommands_q (s : State) (v : Word32) :
    (s.runCommands v).q = if v.getLsbD 1 then [] else if v.getLsbD 0 then s.q.tail else s.q := by
  simp only [State.runCommands, apply_ite State.q, State.clearCounters_q, State.resync_q, State.clear_q, State.pop_q, ite_self]

/-- The integrity check queues the message of the frame in flight or leaves Q (R92). -/
theorem State.checkFrame_q (s : State) : s.checkFrame.q = s.q ∨ s.checkFrame.q = s.q ++ [s.rxMessage] := by
  obtain ⟨-, -, e⟩ | ⟨-, -, e⟩ | ⟨-, e⟩ := s.checkFrame_spec
  · exact .inr (e ▸ rfl)
  · exact .inl (e ▸ rfl)
  · exact .inl (e ▸ rfl)

/-- A byte leaves Q, or it completes a frame and queues the frame's message at the tail (R83, R99). -/
theorem State.parse_q (s : State) (b : Byte) : (s.parse b).q = s.q ∨ (s.parse b).q = s.q ++ [s.rxMessage] := by
  cases hp : s.pstate with
  | pre =>
    left
    obtain ⟨-, -, e⟩ | ⟨-, -, e⟩ | ⟨-, e⟩ := s.parse_pre b hp
    all_goals exact e ▸ rfl
  | addr =>
    left
    obtain ⟨-, e⟩ | ⟨-, e⟩ := s.parse_addr b hp
    all_goals exact e ▸ rfl
  | size =>
    left
    rw [s.parse_size b hp]
    obtain ⟨-, e⟩ | ⟨-, e⟩ := s.takeLength_spec b
    all_goals exact e ▸ rfl
  | payload =>
    left
    obtain ⟨-, e⟩ | ⟨-, e⟩ := s.parse_payload b hp
    all_goals exact e ▸ rfl
  | cksum =>
    obtain ⟨-, e⟩ | ⟨-, e⟩ := s.parse_cksum b hp
    · exact .inl (e ▸ rfl)
    · exact e ▸ (s.takeCkByte b).checkFrame_q

/-! ## Q after each event -/

/-- Settles O32: RX_BYTE alone appends, and only a CTRL write with POP or CLEAR and RESET remove. -/
theorem queueHasOneProducerAndOneConsumer : Obligations.QueueHasOneProducerAndOneConsumer := by
  intro i s t h
  cases i with
  | tick =>
    cases (exec_tick s).symm.trans h
    exact .inl s.beginEvent.timerStep_q
  | rxError =>
    cases (exec_rxError s).symm.trans h
    exact .inl (s.beginEvent.raise .rxIoError).timerStep_q
  | rxByte b =>
    cases (exec_rxByte s b).symm.trans h
    obtain hkeep | hpush := s.beginEvent.parse_q b
    · exact .inl hkeep
    · exact .inr (.inl ⟨b, s.rxMessage, rfl, hpush⟩)
  | wrCtrl v =>
    cases (exec_wrCtrl s v).symm.trans h
    have hq := s.beginEvent.runCommands_q v
    by_cases hclear : v.getLsbD 1 = true
    · exact .inr (.inr (.inr (.inl ⟨v, rfl, hclear, by rw [hq, if_pos hclear]⟩)))
    · rw [if_neg hclear] at hq
      by_cases hpop : v.getLsbD 0 = true
      · exact .inr (.inr (.inl ⟨v, rfl, hpop, by rw [hq, if_pos hpop]; rfl⟩))
      · exact .inl (by rw [hq, if_neg hpop]; rfl)
  | reset =>
    cases (exec_reset s).symm.trans h
    exact .inr (.inr (.inr (.inr ⟨rfl, rfl⟩)))
  | wrPreamble | wrTimeout | wrIgnored | rdPreamble | rdCtrl | rdStatus | rdHeadInfo | rdCntOk | rdCntCrcErr | rdCntQDrop
  | rdCntLenClamp | rdCntTimeout | rdTimeout | rdParams | rdHeadData | rdReserved =>
    cases h
    exact .inl rfl

end Sys2Proof.Machine
end

section
/-! Proofs/CsrMap.lean: the CSR map (42_csr.md R109) in the arithmetic of addresses. An access goes to the register at ADDR
rounded down to a multiple of 4, and the rows of both directions follow that register (O4). -/

namespace Sys2Proof

/-! ## ADDR with bits [1:0] ignored (R53) -/

/-- ADDR rounded down to a multiple of 4, as a number. -/
def alignedAddr (a : CsrAddr) : Nat := a.toNat / 4 * 4

/-- The mask 0xFFC of R109 clears bits [1:0] alone. -/
theorem wordAddr_eq_shifts (a : CsrAddr) : wordAddr a = (a >>> 2) <<< 2 := by
  have hmask : ∀ i < 12, (0xFFC#12).getLsbD i = decide (2 ≤ i) := by decide
  apply BitVec.eq_of_getLsbD_eq
  intro i hi
  rw [wordAddr, BitVec.getLsbD_and, hmask i hi, BitVec.getLsbD_shiftLeft, BitVec.getLsbD_ushiftRight]
  by_cases hlow : i < 2
  · simp [hlow]
  · simp [hlow, hi, show 2 ≤ i by omega]

theorem toNat_wordAddr (a : CsrAddr) : (wordAddr a).toNat = alignedAddr a := by
  rw [wordAddr_eq_shifts, BitVec.toNat_shiftLeft, BitVec.toNat_ushiftRight, Nat.shiftRight_eq_div_pow, Nat.shiftLeft_eq,
    alignedAddr]
  omega

/-! ## The registers and their addresses (R37) -/

/-- The map of R37: which register sits at which multiple of 4. -/
inductive RegAt : Nat → CsrReg → Prop where
  | preamble : RegAt 0x000 .preamble
  | ctrl : RegAt 0x004 .ctrl
  | status : RegAt 0x008 .status
  | headInfo : RegAt 0x00C .headInfo
  | cntOk : RegAt 0x010 .cntOk
  | cntCrcErr : RegAt 0x014 .cntCrcErr
  | cntQDrop : RegAt 0x018 .cntQDrop
  | cntLenClamp : RegAt 0x01C .cntLenClamp
  | cntTimeout : RegAt 0x020 .cntTimeout
  | timeout : RegAt 0x024 .timeout
  | params : RegAt 0x028 .params
  | headData {r : Nat} (h : 0x100 ≤ r ∧ r ≤ 0x1FC) : RegAt r (.headData (BitVec.ofNat 6 ((r - 0x100) / 4)))
  | reserved {r : Nat} (h : 0x02C ≤ r ∧ r ≤ 0x0FC ∨ 0x200 ≤ r) : RegAt r .reserved

theorem RegAt.of_wordAddr {a n : CsrAddr} {c : CsrReg} (h : wordAddr a = n) (hn : RegAt n.toNat c) :
    RegAt (alignedAddr a) c := by rwa [← toNat_wordAddr, h]

/-- The index of HEAD_DATA is ADDR[7:2] (R45). -/
theorem RegAt.extract_index {a : CsrAddr} (h : 0x100#12 ≤ wordAddr a ∧ wordAddr a ≤ 0x1FC#12) :
    RegAt (alignedAddr a) (.headData (a.extractLsb' 2 6)) := by
  rw [BitVec.le_def, BitVec.le_def, toNat_wordAddr] at h
  have hrange : 0x100 ≤ alignedAddr a ∧ alignedAddr a ≤ 0x1FC := h
  have hindex : a.extractLsb' 2 6 = BitVec.ofNat 6 ((alignedAddr a - 0x100) / 4) := by
    apply BitVec.eq_of_toNat_eq
    rw [BitVec.extractLsb'_toNat, BitVec.toNat_ofNat, Nat.shiftRight_eq_div_pow]
    unfold alignedAddr at *
    omega
  exact hindex ▸ .headData hrange

/-- The reserved addresses of R46, as numbers. -/
theorem reservedAddr_iff (a : CsrAddr) :
    reservedAddr a = true ↔ 0x02C ≤ alignedAddr a ∧ alignedAddr a ≤ 0x0FC ∨ 0x200 ≤ alignedAddr a := by
  simp only [reservedAddr, Bool.or_eq_true, decide_eq_true_iff, BitVec.le_def, toNat_wordAddr]
  rfl

/-- A test of the map takes its register if it holds, and leaves the others to the tests after it. -/
theorem RegAt.of_ite {p : Prop} [Decidable p] {r : Nat} {c d : CsrReg} (hc : p → RegAt r c)
    (hd : d ≠ .reserved → RegAt r d) (hne : (if p then c else d) ≠ .reserved) : RegAt r (if p then c else d) := by
  by_cases hp : p
  · rw [if_pos hp]
    exact hc hp
  · rw [if_neg hp] at hne ⊢
    exact hd hne

theorem RegAt.of_csrReg_ne_reserved {a : CsrAddr} : csrReg a ≠ .reserved → RegAt (alignedAddr a) (csrReg a) :=
  of_ite (of_wordAddr · preamble) <| of_ite (of_wordAddr · ctrl) <| of_ite (of_wordAddr · status) <|
  of_ite (of_wordAddr · headInfo) <| of_ite (of_wordAddr · cntOk) <| of_ite (of_wordAddr · cntCrcErr) <|
  of_ite (of_wordAddr · cntQDrop) <| of_ite (of_wordAddr · cntLenClamp) <| of_ite (of_wordAddr · cntTimeout) <|
  of_ite (of_wordAddr · timeout) <| of_ite (of_wordAddr · params) <| of_ite extract_index (absurd rfl)

/-- The register that an access goes to is the one at the rounded address (R53, R109). -/
theorem regAt_csrReg (a : CsrAddr) : RegAt (alignedAddr a) (csrReg a) := by
  by_cases hreserved : csrReg a = .reserved
  · rw [hreserved]
    exact .reserved ((reservedAddr_iff a).1 ((csrReg_reserved_iff a).1 hreserved))
  · exact .of_csrReg_ne_reserved hreserved

/-! ## The rows of both directions (R109) -/

theorem readRow_eq_ite (a : CsrAddr) : readRow a =
    if alignedAddr a = 0x000 then .rdPreamble else if alignedAddr a = 0x004 then .rdCtrl
    else if alignedAddr a = 0x008 then .rdStatus else if alignedAddr a = 0x00C then .rdHeadInfo
    else if alignedAddr a = 0x010 then .rdCntOk else if alignedAddr a = 0x014 then .rdCntCrcErr
    else if alignedAddr a = 0x018 then .rdCntQDrop else if alignedAddr a = 0x01C then .rdCntLenClamp
    else if alignedAddr a = 0x020 then .rdCntTimeout else if alignedAddr a = 0x024 then .rdTimeout
    else if alignedAddr a = 0x028 then .rdParams
    else if 0x100 ≤ alignedAddr a ∧ alignedAddr a ≤ 0x1FC then .rdHeadData (BitVec.ofNat 6 ((alignedAddr a - 0x100) / 4))
    else .rdReserved a := by
  have hreg := regAt_csrReg a
  unfold readRow
  generalize alignedAddr a = r at hreg ⊢
  generalize csrReg a = c at hreg ⊢
  cases hreg with
  | headData h =>
    iterate 11 rw [if_neg (by omega)]
    rw [if_pos h]
  | reserved h =>
    iterate 12 rw [if_neg (by omega)]
  | preamble | ctrl | status | headInfo | cntOk | cntCrcErr | cntQDrop | cntLenClamp | cntTimeout | timeout | params => rfl

/-- A register that a write does not change or command has the row WR_IGNORED (R57, R126). -/
theorem writeRow_eq_ite (a : CsrAddr) (v : Word32) : writeRow a v =
    if alignedAddr a = 0x000 then .wrPreamble v else if alignedAddr a = 0x004 then .wrCtrl v
    else if alignedAddr a = 0x024 then .wrTimeout v else .wrIgnored a v := by
  have hreg := regAt_csrReg a
  unfold writeRow
  generalize alignedAddr a = r at hreg ⊢
  generalize csrReg a = c at hreg ⊢
  cases hreg with
  | headData h | reserved h => iterate 3 rw [if_neg (by omega)]
  | preamble | ctrl | status | headInfo | cntOk | cntCrcErr | cntQDrop | cntLenClamp | cntTimeout | timeout | params => rfl

end Sys2Proof

namespace Sys2Proof.Machine

/-- Settles O4: a word of KIND 3 with DATA 0, or of KIND 4, is the word of a CSR access, whose row is that of the map. -/
theorem csrDecodeFollowsTheMap : Obligations.CsrDecodeFollowsTheMap := by
  intro w a v r
  constructor
  · intro hkind hdata
    have hw : (CsrAccess.read a).word = w := by
      have hfields : mkWord (kindField w) a v = w := mkWord_fields w
      rwa [show kindField w = 0x3#4 from hkind, hdata] at hfields
    rw [← hw, CsrAccess.decode_word, CsrAccess.instr, readRow_eq_ite]
    rfl
  · intro hkind
    have hw : (CsrAccess.write a v).word = w := by
      have hfields : mkWord (kindField w) a v = w := mkWord_fields w
      rwa [show kindField w = 0x4#4 from hkind] at hfields
    rw [← hw, CsrAccess.decode_word, CsrAccess.instr, writeRow_eq_ite]
    rfl

end Sys2Proof.Machine
end

section
/-! Proofs/CsrFields.lean: the packed words of STATUS and PARAMS as four bytes side by side (10_state.md R40, R43), and the
fields that the host reads from them (O37, O41). -/

namespace Sys2Proof.Machine

/-! ## Fields within a byte lane (R51) -/

/-- A field within a lane is a field of that byte. -/
theorem extract_getLane (w : Word32) (lane i n : Nat) (h : i + n ≤ 8) :
    (getLane w lane).extractLsb' i n = w.extractLsb' (8 * lane + i) n := by
  apply BitVec.eq_of_getLsbD_eq
  intro j hj
  rw [BitVec.getLsbD_extractLsb', BitVec.getLsbD_extractLsb', getLsbD_getLane w lane (i + j) (by omega), Nat.add_assoc]

/-- A number of at most one byte, written as a word, is that byte with zeros above it. -/
theorem ofNat_eq_setWidth_of_le {n : Nat} (h : n ≤ 255) : BitVec.ofNat 32 n = (BitVec.ofNat 8 n).setWidth 32 := by
  apply BitVec.eq_of_toNat_eq
  simp only [BitVec.toNat_ofNat, BitVec.toNat_setWidth]
  omega

theorem toNat_ofNat_byte {n : Nat} (h : n ≤ 255) : (BitVec.ofNat 8 n).toNat = n := by
  rw [BitVec.toNat_ofNat, Nat.mod_eq_of_lt (by omega)]

/-! ## STATUS (R40, R115) -/

/-- FULL as R34 states it. -/
theorem State.full_iff (s : State) : s.full = true ↔ s.build.queueDepth = .bounded s.q.length := by
  unfold State.full
  cases s.build.queueDepth with
  | bounded n => simp [eq_comm]
  | unbounded => simp

/-- Bits 7:0 of STATUS: PSTATE, FULL and AVAIL (R40). -/
def statusLowByte (code : BitVec 3) (full avail : Bool) : Byte := 0#3 ++ code ++ BitVec.ofBool full ++ BitVec.ofBool avail

theorem setWidth_statusLowByte (code : BitVec 3) (full avail : Bool) : (statusLowByte code full avail).setWidth 32
    = (code.setWidth 32 <<< 2) ||| ((BitVec.ofBool full).setWidth 32 <<< 1) ||| (BitVec.ofBool avail).setWidth 32 := by
  revert code full avail
  decide

theorem statusLowByte_fields (code : BitVec 3) (full avail : Bool) :
    (statusLowByte code full avail).getLsbD 0 = avail ∧ (statusLowByte code full avail).getLsbD 1 = full
      ∧ (statusLowByte code full avail).extractLsb' 2 3 = code ∧ (statusLowByte code full avail).extractLsb' 5 3 = 0 := by
  revert code full avail
  decide

/-- STATUS is QCOUNT, PCOUNT and the low byte, under a byte of zeros. -/
theorem State.statusWord_eq_append (s : State) : s.statusWord
    = (0#8 ++ BitVec.ofNat 8 (min s.q.length 255) ++ s.pcount ++ statusLowByte s.pstate.code s.full s.avail : Word32) := by
  rw [← packBytes_eq_append, setWidth_statusLowByte, ← ofNat_eq_setWidth_of_le (Nat.min_le_right ..), State.statusWord]
  simp [BitVec.or_assoc]

/-- The four bytes of STATUS. -/
theorem State.getLane_statusWord (s : State) :
    getLane s.statusWord 0 = statusLowByte s.pstate.code s.full s.avail ∧ getLane s.statusWord 1 = s.pcount
      ∧ getLane s.statusWord 2 = BitVec.ofNat 8 (min s.q.length 255) ∧ getLane s.statusWord 3 = 0 := by
  rw [State.statusWord_eq_append]
  exact ⟨getLane_append _ _ _ _ 0 (by decide), getLane_append _ _ _ _ 1 (by decide), getLane_append _ _ _ _ 2 (by decide),
    getLane_append _ _ _ _ 3 (by decide)⟩

/-- Settles O37: each field is read off the byte of STATUS that holds it. -/
theorem statusRead : Obligations.StatusRead := by
  refine ⟨by decide, fun s _ => ⟨s.statusWord, exec_rdStatus s, ?_⟩⟩
  obtain ⟨hlow, hpcount, hqcount, hzero⟩ := s.getLane_statusWord
  obtain ⟨havail, hfull, hcode, hgap⟩ := statusLowByte_fields s.pstate.code s.full s.avail
  rw [← hlow, getLsbD_getLane _ _ _ (by decide)] at havail hfull
  rw [← hlow, extract_getLane _ _ _ _ (by decide)] at hcode hgap
  refine ⟨?_, ?_, ?_, hgap, hpcount, ?_, hzero⟩
  · rw [havail, State.avail, decide_eq_true_iff]
  · rw [hfull, s.full_iff]
  · rw [hcode]
    cases s.pstate <;> rfl
  · exact (congrArg BitVec.toNat hqcount).trans (toNat_ofNat_byte (Nat.min_le_right ..))

/-! ## PARAMS (R43, R124) -/

/-- Bits 15:8 of PARAMS: QD, or 0 where it is unbounded (R43). -/
def qdepthByte : QueueDepth → Byte
  | .bounded n => BitVec.ofNat 8 n
  | .unbounded => 0

theorem field_eq_setWidth_qdepthByte {d : QueueDepth} (h : d.legal = true) : QueueDepth.field d = (qdepthByte d).setWidth 32 := by
  cases d with
  | bounded n => exact ofNat_eq_setWidth_of_le (of_decide_eq_true h).2
  | unbounded => rfl

/-- The two upper bytes of PARAMS: CKBE, and the two sizes of 4 (R43). -/
theorem params_upper_half (o : CkOrder) : (CkOrder.field o <<< 24) ||| (4#32 <<< 20) ||| (4#32 <<< 16)
    = ((0#7 ++ BitVec.ofBool (o = .be) : Byte).setWidth 32 <<< 24) ||| ((0x44#8).setWidth 32 <<< 16) := by
  cases o <;> decide

/-- For a legal build PARAMS is CKBE, the two sizes, QD and M, a byte each. -/
theorem paramsWord_eq_append {b : Build} (h : b.Legal) : paramsWord b
    = ((0#7 ++ BitVec.ofBool (b.ckOrder = .be)) ++ 0x44#8 ++ qdepthByte b.queueDepth ++ BitVec.ofNat 8 b.maxPayload : Word32) := by
  obtain ⟨-, hpayload, hdepth⟩ := h
  rw [← packBytes_eq_append, ← ofNat_eq_setWidth_of_le hpayload, ← field_eq_setWidth_qdepthByte hdepth, ← params_upper_half,
    paramsWord]

/-- The four bytes of PARAMS. -/
theorem getLane_paramsWord {b : Build} (h : b.Legal) :
    getLane (paramsWord b) 0 = BitVec.ofNat 8 b.maxPayload ∧ getLane (paramsWord b) 1 = qdepthByte b.queueDepth
      ∧ getLane (paramsWord b) 2 = 0x44#8 ∧ getLane (paramsWord b) 3 = 0#7 ++ BitVec.ofBool (b.ckOrder = .be) := by
  rw [paramsWord_eq_append h]
  exact ⟨getLane_append _ _ _ _ 0 (by decide), getLane_append _ _ _ _ 1 (by decide), getLane_append _ _ _ _ 2 (by decide),
    getLane_append _ _ _ _ 3 (by decide)⟩

theorem ckbeByte_fields (c : Bool) : (0#7 ++ BitVec.ofBool c : Byte).getLsbD 0 = c
    ∧ (0#7 ++ BitVec.ofBool c : Byte).extractLsb' 1 7 = 0 := by
  cases c <;> decide

/-- Settles O41: each field is read off the byte of PARAMS that holds it; R8 and R9 bound M and QD by a byte. -/
theorem paramsRead : Obligations.ParamsRead := by
  refine ⟨by decide, fun s hlegal => ⟨paramsWord s.build, exec_rdParams s, ?_⟩⟩
  obtain ⟨hm, hqd, hsizes, htop⟩ := getLane_paramsWord hlegal
  obtain ⟨-, hpayload, hdepth⟩ := hlegal
  obtain ⟨hckbe, hgap⟩ := ckbeByte_fields (s.build.ckOrder = .be)
  rw [← htop, getLsbD_getLane _ _ _ (by decide)] at hckbe
  rw [← htop, extract_getLane _ _ _ _ (by decide)] at hgap
  refine ⟨(congrArg BitVec.toNat hm).trans (toNat_ofNat_byte hpayload), ?_, ?_, ?_, ?_, ?_, hgap⟩
  · intro n hn
    rw [hn] at hqd hdepth
    exact (congrArg BitVec.toNat hqd).trans (toNat_ofNat_byte (of_decide_eq_true hdepth).2)
  · intro hn
    rw [hn] at hqd
    exact hqd
  · exact (extract_getLane _ 2 0 4 (by decide)).symm.trans (by rw [hsizes]; decide)
  · exact (extract_getLane _ 2 4 4 (by decide)).symm.trans (by rw [hsizes]; decide)
  · rw [hckbe, decide_eq_true_iff]

end Sys2Proof.Machine
end

section
/-! Proofs/CsrEvents.lean: the whole next state of the CSR events (42_csr.md R110 to R123). A CTRL write runs its commands one
after the other; an equation for each says what its bit decides (O27). -/

namespace Sys2Proof.Machine

section Commands

variable (s : State)

/-! ## The commands of a CTRL write (R112) -/

/-- POP, run if its bit is 1 (R103). -/
theorem State.select_pop (c : Bool) : (if c then s.pop else s) =
    { s with
      q := if c then s.q.tail else s.q
      outcome.conditions := s.outcome.conditions ++ if c = true ∧ s.q = [] then [.popEmpty] else [] } := by
  cases c with
  | false => simp
  | true =>
    obtain ⟨hq, e⟩ | ⟨m, rest, hq, e⟩ := s.pop_spec
    · simp [e, hq, State.raise]
    · simp [e, hq]

/-- CLEAR, run if its bit is 1 (R104). -/
theorem State.select_clear (c : Bool) : (if c then s.clear else s) = { s with q := if c then [] else s.q } := by
  cases c <;> rfl

/-- RESYNC, run if its bit is 1 (R113). -/
theorem State.select_resync (c : Bool) : (if c then s.resync else s) =
    { s with
      pstate := if c then .pre else s.pstate
      pcount := if c then 0 else s.pcount
      idleCnt := if c then 0 else s.idleCnt } := by
  cases c <;> rfl

/-- CNT_CLR, run if its bit is 1 (R114). -/
theorem State.select_clearCounters (c : Bool) : (if c then s.clearCounters else s) =
    { s with
      cntOk := if c then 0 else s.cntOk
      cntCrcErr := if c then 0 else s.cntCrcErr
      cntQDrop := if c then 0 else s.cntQDrop
      cntLenClamp := if c then 0 else s.cntLenClamp
      cntTimeout := if c then 0 else s.cntTimeout } := by
  cases c <;> rfl

end Commands

/-- Settles O27: the four commands change disjoint parts of the state, but POP and CLEAR, which both write Q. -/
theorem ctrlWriteRunsItsCommands : Obligations.CtrlWriteRunsItsCommands := by
  intro s v
  constructor
  · exact CsrAccess.decode_word (.write 0x004 v)
  · rw [exec_wrCtrl, State.runCommands, State.select_pop, State.select_clear, State.select_resync,
      State.select_clearCounters]
    rfl

/-! ## The other writes (R111, R123) -/

/-- Settles O35: the lanes of the word are the bytes of P (R38). -/
theorem preambleWrite : Obligations.PreambleWrite := fun s v =>
  ⟨CsrAccess.decode_word (.write 0x000 v), exec_wrPreamble s v⟩

/-- Settles O40: the write sets TIMEOUT and IDLE_CNT alone. -/
theorem timeoutWrite : Obligations.TimeoutWrite := fun s v =>
  ⟨CsrAccess.decode_word (.write 0x024 v), exec_wrTimeout s v⟩

/-! ## The reads (R110, R116 to R122) -/

/-- An answered read changes the outcome of the event alone (R56). -/
theorem State.answer_beginEvent (s : State) (v : Word32) : s.beginEvent.answer v = { s with outcome := returned v } := rfl

/-- Settles O34: the word of P is its bytes side by side. -/
theorem preambleRead : Obligations.PreambleRead := by
  refine ⟨by decide, fun s => ?_⟩
  rw [exec_rdPreamble, Preamble.word, packBytes_eq_append, State.answer_beginEvent]

/-- Settles O38: each read answers with the counter of its register. -/
theorem counterReads : Obligations.CounterReads :=
  ⟨by decide, fun s => ⟨exec_rdCntOk s, exec_rdCntCrcErr s, exec_rdCntQDrop s, exec_rdCntLenClamp s, exec_rdCntTimeout s⟩⟩

/-- Settles O39: CTRL holds nothing to read (R39), and TIMEOUT reads as the register itself. -/
theorem ctrlAndTimeoutReads : Obligations.CtrlAndTimeoutReads :=
  ⟨by decide, fun s => ⟨exec_rdCtrl s, exec_rdTimeout s⟩⟩

end Sys2Proof.Machine
end

section
/-! Proofs/Conditions.lean: what each event raises (60_exceptions.md R127, R131) and the level of msg_avail (R129). A rule for
each operation that an event runs says what it appends to the conditions of the event (O46). -/

namespace Sys2Proof.Machine

/-! ## The conditions of each operation -/

/-- The timer step appends TIMEOUT_RESYNC, with the parser's place before the resync, or nothing (R138). -/
theorem State.timerStep_conditions (s : State) : s.timerStep.outcome.conditions = s.outcome.conditions
    ∨ s.timerStep.outcome.conditions = s.outcome.conditions ++ [.timeoutResync s.pstate s.pcount] := by
  obtain ⟨-, e⟩ | ⟨-, -, -, e⟩ | ⟨-, -, -, e⟩ := s.timerStep_spec
  · exact .inl (e ▸ rfl)
  · exact .inr (e ▸ rfl)
  · exact .inl (e ▸ rfl)

/-- Of the commands of a CTRL write only POP raises, on an empty queue (R103, R112). -/
theorem State.runCommands_conditions (s : State) (v : Word32) : (s.runCommands v).outcome.conditions =
    s.outcome.conditions ++ if v.getLsbD 0 = true ∧ s.q = [] then [.popEmpty] else [] := by
  rw [State.runCommands, State.select_pop, State.select_clear, State.select_resync, State.select_clearCounters]

/-- The integrity check comes first: only a frame that passes it can be dropped for want of room (R92). -/
theorem State.checkFrame_conditions (s : State) :
    (s.rxCk = s.fcs ∧ s.checkFrame.outcome.conditions = s.outcome.conditions)
      ∨ (s.rxCk = s.fcs ∧ s.checkFrame.outcome.conditions = s.outcome.conditions ++ [.queueFullDrop])
      ∨ (s.rxCk ≠ s.fcs ∧ s.checkFrame.outcome.conditions = s.outcome.conditions ++ [.ckMismatch s.rxCk s.fcs]) := by
  obtain ⟨hmatch, -, e⟩ | ⟨hmatch, -, e⟩ | ⟨hmatch, e⟩ := s.checkFrame_spec
  · exact .inl ⟨hmatch, e ▸ rfl⟩
  · exact .inr (.inl ⟨hmatch, e ▸ rfl⟩)
  · exact .inr (.inr ⟨hmatch, e ▸ rfl⟩)

/-- The check leaves the assembled RX_CK (R92). -/
@[simp] theorem State.checkFrame_rxCk (s : State) : s.checkFrame.rxCk = s.rxCk := by
  obtain ⟨-, -, e⟩ | ⟨-, -, e⟩ | ⟨-, e⟩ := s.checkFrame_spec
  all_goals exact e ▸ rfl

/-! ## The conditions of a byte, by the parser's state -/

section Byte

variable {s : State} (b : Byte)

/-- A byte in PRE raises SYNC_MISS, with the offset before the reset of it, or nothing (R85). -/
theorem State.parse_conditions_of_pre (hp : s.pstate = .pre) : (s.parse b).outcome.conditions = s.outcome.conditions
    ∨ (s.parse b).outcome.conditions = s.outcome.conditions ++ [.syncMiss b s.pcount] := by
  obtain ⟨-, -, e⟩ | ⟨-, -, e⟩ | ⟨-, e⟩ := s.parse_pre b hp
  · exact .inl (e ▸ rfl)
  · exact .inl (e ▸ rfl)
  · exact .inr (e ▸ rfl)

theorem State.parse_conditions_of_addr (hp : s.pstate = .addr) :
    (s.parse b).outcome.conditions = s.outcome.conditions := by
  obtain ⟨-, e⟩ | ⟨-, e⟩ := s.parse_addr b hp
  all_goals exact e ▸ rfl

/-- The length byte raises LEN_CLAMPED or nothing (R88). -/
theorem State.parse_conditions_of_size (hp : s.pstate = .size) : (s.parse b).outcome.conditions = s.outcome.conditions
    ∨ (s.parse b).outcome.conditions = s.outcome.conditions ++ [.lenClamped b] := by
  rw [s.parse_size b hp]
  obtain ⟨-, e⟩ | ⟨-, e⟩ := s.takeLength_spec b
  · exact .inr (e ▸ rfl)
  · exact .inl (e ▸ rfl)

theorem State.parse_conditions_of_payload (hp : s.pstate = .payload) :
    (s.parse b).outcome.conditions = s.outcome.conditions := by
  obtain ⟨-, e⟩ | ⟨-, e⟩ := s.parse_payload b hp
  all_goals exact e ▸ rfl

/-- A checksum byte before the fourth raises nothing (R91). -/
theorem State.parse_conditions_of_cksum (hp : s.pstate = .cksum) (hc : s.pcount.toNat < 3) :
    (s.parse b).outcome.conditions = s.outcome.conditions := by
  obtain ⟨-, e⟩ | ⟨hge, -⟩ := s.parse_cksum b hp
  · exact e ▸ rfl
  · exact absurd hc (Nat.not_lt.2 hge)

/-- The fourth checksum byte raises what the check of the frame raises, on the RX_CK that the byte completes (R92). -/
theorem State.parse_conditions_of_fourth (hp : s.pstate = .cksum) (hc : s.pcount = 3) :
    ((s.parse b).rxCk = s.fcs ∧ (s.parse b).outcome.conditions = s.outcome.conditions)
      ∨ ((s.parse b).rxCk = s.fcs ∧ (s.parse b).outcome.conditions = s.outcome.conditions ++ [.queueFullDrop])
      ∨ ((s.parse b).rxCk ≠ s.fcs
        ∧ (s.parse b).outcome.conditions = s.outcome.conditions ++ [.ckMismatch (s.parse b).rxCk s.fcs]) := by
  obtain ⟨hlt, -⟩ | ⟨-, e⟩ := s.parse_cksum b hp
  · rw [hc] at hlt
    exact absurd hlt (by decide)
  · rw [e, State.checkFrame_rxCk]
    exact (s.takeCkByte b).checkFrame_conditions

end Byte

/-! ## The conditions of each event -/

/-- What RX_BYTE raises, by the parser's state; in CKSUM the invariants leave PCOUNT = 3 as the one case of the check. -/
theorem State.Inv.parse_beginEvent_conditions {s : State} (h : s.Inv) (b : Byte) :
    let t := s.beginEvent.parse b
    (t.outcome.conditions = [] ∧ (s.pstate = .cksum → s.pcount = 3 → t.rxCk = s.fcs))
      ∨ (s.pstate = .pre ∧ t.outcome.conditions = [.syncMiss b s.pcount])
      ∨ (s.pstate = .size ∧ t.outcome.conditions = [.lenClamped b])
      ∨ (s.pstate = .cksum ∧ s.pcount = 3 ∧ t.rxCk ≠ s.fcs ∧ t.outcome.conditions = [.ckMismatch t.rxCk s.fcs])
      ∨ (s.pstate = .cksum ∧ s.pcount = 3 ∧ t.rxCk = s.fcs ∧ t.outcome.conditions = [.queueFullDrop]) := by
  intro t
  cases hp : s.pstate with
  | pre =>
    obtain hnone | hmiss := State.parse_conditions_of_pre b (s := s.beginEvent) hp
    · exact .inl ⟨hnone, nofun⟩
    · exact .inr (.inl ⟨rfl, hmiss⟩)
  | addr => exact .inl ⟨State.parse_conditions_of_addr b (s := s.beginEvent) hp, nofun⟩
  | size =>
    obtain hnone | hclamped := State.parse_conditions_of_size b (s := s.beginEvent) hp
    · exact .inl ⟨hnone, nofun⟩
    · exact .inr (.inr (.inl ⟨rfl, hclamped⟩))
  | payload => exact .inl ⟨State.parse_conditions_of_payload b (s := s.beginEvent) hp, nofun⟩
  | cksum =>
    by_cases hc : s.pcount = 3
    · obtain ⟨hmatch, hnone⟩ | ⟨hmatch, hdrop⟩ | ⟨hbad, hmismatch⟩ :=
        State.parse_conditions_of_fourth b (s := s.beginEvent) hp hc
      · exact .inl ⟨hnone, fun _ _ => hmatch⟩
      · exact .inr (.inr (.inr (.inr ⟨rfl, hc, hmatch, hdrop⟩)))
      · exact .inr (.inr (.inr (.inl ⟨rfl, hc, hbad, hmismatch⟩)))
    · have hlt : s.pcount.toNat < 3 := by
        have hle := h.cksumBound hp
        bv_omega
      exact .inl ⟨State.parse_conditions_of_cksum b (s := s.beginEvent) hp hlt, fun _ h3 => absurd h3 hc⟩

/-- Settles O46: an event starts without conditions, and the operations it runs append theirs in order. -/
theorem conditionsOfEachEvent : Obligations.ConditionsOfEachEvent := by
  intro i s t hinv h
  cases i with
  | tick =>
    cases (exec_tick s).symm.trans h
    exact s.beginEvent.timerStep_conditions
  | rxByte b =>
    cases (exec_rxByte s b).symm.trans h
    exact hinv.parse_beginEvent_conditions b
  | rxError =>
    cases (exec_rxError s).symm.trans h
    exact (s.beginEvent.raise .rxIoError).timerStep_conditions
  | wrCtrl v =>
    cases (exec_wrCtrl s v).symm.trans h
    have hcs := s.beginEvent.runCommands_conditions v
    split at hcs
    · exact .inr hcs
    · exact .inl hcs
  | reset =>
    cases (exec_reset s).symm.trans h
    rfl
  | wrPreamble | wrTimeout | wrIgnored | rdPreamble | rdCtrl | rdStatus | rdHeadInfo | rdCntOk | rdCntCrcErr | rdCntQDrop
  | rdCntLenClamp | rdCntTimeout | rdTimeout | rdParams | rdHeadData | rdReserved =>
    cases h
    rfl

/-! ## msg_avail (R129) -/

theorem State.msgAvail_iff (s : State) : s.msgAvail = true ↔ s.q ≠ [] := by
  rw [State.msgAvail, State.avail, decide_eq_true_iff, List.length_pos_iff]

/-- Bit 0 of STATUS is AVAIL, the level of msg_avail (R34, R40). -/
theorem State.statusWord_getLsbD_zero (s : State) : s.statusWord.getLsbD 0 = s.msgAvail := by
  obtain ⟨hlow, -⟩ := s.getLane_statusWord
  obtain ⟨havail, -⟩ := statusLowByte_fields s.pstate.code s.full s.avail
  rwa [← hlow, getLsbD_getLane _ _ _ (by decide)] at havail

/-- Settles O48: the level is computed from Q as it stands after the event, and so is the word that a STATUS read returns. -/
theorem msgAvailIsTheAvailLevel : Obligations.MsgAvailIsTheAvailLevel := fun _ _ t _ =>
  ⟨t.msgAvail_iff, _, t.statusWord, exec_rdStatus t, rfl, t.statusWord_getLsbD_zero⟩

end Sys2Proof.Machine
end

section
/-! Proofs/Reset.lean: RESET, its event word and the state after it (70_reset_and_hazards.md R145, O49). -/

namespace Sys2Proof.Machine

/-- The RESET word: KIND 5 with ADDR and DATA 0 (R80). -/
theorem mkWord_reset : mkWord 0x5 0 0 = 0x500000000000 := by decide

/-- Settles O49: after RESET the state is that of a block just built with the same constants (`exec_reset`), with the trace
that follows. -/
theorem resetEvent : Obligations.ResetEvent := by
  constructor
  · exact mkWord_reset ▸ decode_reset_word
  · exact exec_reset

end Sys2Proof.Machine
end

section
/-! Proofs/StaleRegisters.lean: the frame registers whose contents are rewritten before they are next read show nowhere
(10_state.md R27, R36; O54). Two states that agree on all but such registers take the same branch of every operation, and the
operation leaves them agreeing on all but such registers. With the fourth checksum byte every register that the integrity check
reads has been rewritten, so the check has one outcome in both. -/

namespace Sys2Proof.Machine

/-- Writing element `n` of two lists of one length that agree before it makes them agree up to it. -/
theorem getElem?_set_congr {α : Type} {l m : List α} {n : Nat} (hlen : l.length = m.length)
    (hlt : ∀ j, j < n → l[j]? = m[j]?) (a : α) (j : Nat) (hj : j < n + 1) : (l.set n a)[j]? = (m.set n a)[j]? := by
  rw [List.getElem?_set, List.getElem?_set, hlen]
  split
  · rfl
  · exact hlt j (by omega)

namespace SameLive

variable {s t : State}

theorem refl (s : State) : SameLive s s :=
  ⟨rfl, rfl, fun _ => rfl, fun _ => rfl, fun _ => rfl, fun _ _ _ => rfl, fun _ _ _ => rfl, fun _ _ _ => rfl, rfl, rfl, rfl,
    rfl, rfl, rfl, rfl, rfl, rfl, rfl, rfl, rfl⟩

/-- A choice that both states make alike. -/
theorem ite {a b a' b' : State} {c c' : Prop} [Decidable c] [Decidable c'] (hc : c ↔ c') (hpos : SameLive a a')
    (hneg : SameLive b b') : SameLive (if c then a else b) (if c' then a' else b') := by
  by_cases h : c
  · rwa [if_pos h, if_pos (hc.1 h)]
  · rwa [if_neg h, if_neg (mt hc.2 h)]

/-! ## Operations that leave the parser's place -/

theorem beginEvent (h : SameLive s t) : SameLive s.beginEvent t.beginEvent := { h with outcome := rfl }

theorem raise (h : SameLive s t) (c : Condition) : SameLive (s.raise c) (t.raise c) :=
  { h with outcome := by rw [State.raise_outcome, State.raise_outcome, h.outcome] }

theorem answer (h : SameLive s t) (v : Word32) : SameLive (s.answer v) (t.answer v) :=
  { h with outcome := by rw [State.answer_outcome, State.answer_outcome, h.outcome] }

theorem restartIdle (h : SameLive s t) : SameLive s.restartIdle t.restartIdle := { h with idleCnt := rfl }

theorem setQ (h : SameLive s t) (q : List Message) : SameLive { s with q := q } { t with q := q } := { h with q := rfl }

theorem clearCounters (h : SameLive s t) : SameLive s.clearCounters t.clearCounters :=
  { h with cntOk := rfl, cntCrcErr := rfl, cntQDrop := rfl, cntLenClamp := rfl, cntTimeout := rfl }

theorem pop (h : SameLive s t) : SameLive s.pop t.pop := by
  obtain ⟨hs, es⟩ | ⟨m, rest, hs, es⟩ := s.pop_spec
  · obtain ⟨-, et⟩ | ⟨m', rest', ht, -⟩ := t.pop_spec
    · rw [es, et]
      exact h.raise .popEmpty
    · cases hs.symm.trans (h.q.trans ht)
  · obtain ⟨ht, -⟩ | ⟨m', rest', ht, et⟩ := t.pop_spec
    · cases hs.symm.trans (h.q.trans ht)
    · cases hs.symm.trans (h.q.trans ht)
      rw [es, et]
      exact h.setQ rest

/-! ## The parser sent back, and the timer (R113, R138) -/

/-- At (PRE, 0) every frame register is stale. -/
theorem toPre (h : SameLive s t) : SameLive s.toPre t.toPre :=
  { h with
    pstate := rfl, pcount := rfl, dst := by simp, src := by simp, len := by simp
    bufInPayload := nofun, bufInCksum := nofun, ck := nofun }

theorem resync (h : SameLive s t) : SameLive s.resync t.resync := h.toPre.restartIdle

theorem fireTimeout (h : SameLive s t) : SameLive s.fireTimeout t.fireTimeout := by
  have hraised := h.raise (.timeoutResync s.pstate s.pcount)
  have hresync := hraised.resync
  unfold State.fireTimeout
  rw [← h.pstate, ← h.pcount, ← h.cntTimeout]
  exact { hresync with cntTimeout := rfl }

theorem parserIdle_eq (h : SameLive s t) : s.parserIdle = t.parserIdle := by
  rw [State.parserIdle, State.parserIdle, h.pstate, h.pcount]

theorem timerStep (h : SameLive s t) : SameLive s.timerStep t.timerStep := by
  unfold State.timerStep
  refine ite ?_ h.restartIdle (ite ?_ h.fireTimeout { h with idleCnt := congrArg (· + 1) h.idleCnt })
  · rw [h.timeout, h.parserIdle_eq]
  · rw [h.timeout, h.idleCnt]

/-! ## The commands of a CTRL write (R112) -/

theorem runCommands (h : SameLive s t) (v : Word32) : SameLive (s.runCommands v) (t.runCommands v) :=
  have hpop := ite (c := v.getLsbD 0 = true) .rfl h.pop h
  have hclear := ite (c := v.getLsbD 1 = true) .rfl (hpop.setQ []) hpop
  have hresync := ite (c := v.getLsbD 2 = true) .rfl hclear.resync hclear
  ite (c := v.getLsbD 3 = true) .rfl hresync.clearCounters hresync

/-! ## A byte, by the parser's state (R85 to R92) -/

theorem countTo_of_pre (h : SameLive s t) (hp : s.pstate = .pre) (k : Byte) :
    SameLive { s with pcount := k } { t with pcount := k } :=
  { h with
    pcount := rfl, dst := by simp [hp]
    bufInPayload := fun e => nomatch hp.symm.trans e
    ck := fun e => nomatch hp.symm.trans e }

theorem rxPre (h : SameLive s t) (hp : s.pstate = .pre) (b : Byte) : SameLive (s.rxPre b) (t.rxPre b) := by
  have haddr : SameLive { s with pstate := .addr, pcount := 0 } { t with pstate := .addr, pcount := 0 } :=
    { h with
      pstate := rfl, pcount := rfl, dst := by simp, src := by simp, len := by simp
      bufInPayload := nofun, bufInCksum := nofun, ck := nofun }
  unfold State.rxPre
  refine ite ?_ (ite ?_ haddr ?_) ?_
  · rw [h.pre, h.pcount]
  · rw [h.pcount]
  · rw [← h.pcount]
    exact h.countTo_of_pre hp _
  · rw [← h.pcount]
    exact (h.raise _).countTo_of_pre hp 0

theorem rxAddr (h : SameLive s t) (hp : s.pstate = .addr) (b : Byte) : SameLive (s.rxAddr b) (t.rxAddr b) := by
  unfold State.rxAddr
  by_cases h0 : s.pcount = 0
  · rw [if_pos h0, if_pos (h.pcount ▸ h0)]
    exact { h with
      pcount := rfl, dst := fun _ => rfl
      bufInPayload := fun e => nomatch hp.symm.trans e
      ck := fun e => nomatch hp.symm.trans e }
  · rw [if_neg h0, if_neg (h.pcount ▸ h0)]
    exact { h with
      pstate := rfl, pcount := rfl, dst := fun _ => h.dst (.inl ⟨hp, h0⟩), src := fun _ => rfl, len := by simp
      bufInPayload := nofun, bufInCksum := nofun, ck := nofun }

/-- RX_LEN is rewritten by the length byte. -/
theorem takeLength (h : SameLive s t) (hp : s.pstate = .size) (b : Byte) : SameLive (s.takeLength b) (t.takeLength b) := by
  have hraised := h.raise (.lenClamped b)
  have hmax : s.build.maxPayload = t.build.maxPayload := congrArg Build.maxPayload h.build
  unfold State.takeLength
  refine ite (by rw [hmax]) ?_ { h with len := fun _ => rfl, bufInCksum := fun e => nomatch hp.symm.trans e }
  exact { hraised with
    len := fun _ => congrArg (clampLen · b) hmax
    cntLenClamp := congrArg inc32 h.cntLenClamp
    bufInCksum := fun e => nomatch hp.symm.trans e }

/-- Where the length is taken, RX_BUF and RX_CK hold nothing of this frame yet. -/
theorem leaveSize (h : SameLive s t) (hp : s.pstate = .size) (hlen : s.rxLen = t.rxLen) :
    SameLive s.leaveSize t.leaveSize :=
  { h with
    pstate := by rw [State.leaveSize_pstate, State.leaveSize_pstate, hlen]
    pcount := rfl
    dst := fun _ => h.dst (.inr (.inl hp))
    src := fun _ => h.src (.inl hp)
    len := fun _ => hlen
    bufInPayload := fun _ j hj => absurd hj j.not_lt_zero
    bufInCksum := fun hck j hj => by
      rw [State.leaveSize_pstate] at hck
      split at hck
      · next hzero => exact absurd (hj.trans_eq (congrArg BitVec.toNat hzero)) j.not_lt_zero
      · cases hck
    ck := fun _ j hj => absurd hj j.not_lt_zero }

theorem rxSize (h : SameLive s t) (hp : s.pstate = .size) (b : Byte) : SameLive (s.rxSize b) (t.rxSize b) := by
  have hplace : (s.takeLength b).pstate = .size := by
    obtain ⟨-, e⟩ | ⟨-, e⟩ := s.takeLength_spec b
    all_goals exact e ▸ hp
  refine (h.takeLength hp b).leaveSize hplace ?_
  rw [State.takeLength_rxLen, State.takeLength_rxLen, h.build]

theorem rxPayloadByte (h : SameLive s t) (hs : s.Inv) (ht : t.Inv) (hp : s.pstate = .payload) (b : Byte) :
    SameLive (s.rxPayloadByte b) (t.rxPayloadByte b) := by
  obtain ⟨-, hcount⟩ := hs.payloadBound hp
  have hlen := h.len (.inl hp)
  have hdst := h.dst (.inr (.inr (.inl hp)))
  have hsrc := h.src (.inr (.inl hp))
  have hbuf := getElem?_set_congr (by rw [hs.bufLength, ht.bufLength, h.build]) (h.bufInPayload hp) b
  unfold State.rxPayloadByte
  rw [← h.pcount]
  by_cases hlast : s.pcount.toNat + 1 = s.rxLen.toNat
  · rw [if_pos hlast, if_pos (hlen ▸ hlast)]
    exact { h with
      pstate := rfl, pcount := rfl, dst := fun _ => hdst, src := fun _ => hsrc, len := fun _ => hlen
      bufInPayload := nofun
      bufInCksum := fun _ j hj => hbuf j (hlast ▸ hj)
      ck := fun _ j hj => absurd hj j.not_lt_zero }
  · have hnext : (s.pcount + 1).toNat = s.pcount.toNat + 1 := by bv_omega
    rw [if_neg hlast, if_neg (hlen ▸ hlast)]
    exact { h with
      pcount := rfl, dst := fun _ => hdst
      bufInPayload := fun _ j hj => hbuf j (hnext ▸ hj)
      bufInCksum := fun e => nomatch hp.symm.trans e
      ck := fun e => nomatch hp.symm.trans e }

/-- A checksum byte joins those before it, at its lane in CK_ORDER (R91). -/
theorem takeCkByte_lanes (h : SameLive s t) (hs : s.Inv) (hp : s.pstate = .cksum) (b : Byte) (j : Nat)
    (hj : j < s.pcount.toNat + 1) : getLane (s.takeCkByte b).rxCk (ckLane s.build.ckOrder j)
      = getLane (t.takeCkByte b).rxCk (ckLane s.build.ckOrder j) := by
  have hcount := hs.cksumBound hp
  rw [State.takeCkByte_rxCk, State.takeCkByte_rxCk, ← h.build, ← h.pcount, getLane_putCkByte _ _ _ _ _ (by omega) (by omega),
    getLane_putCkByte _ _ _ _ _ (by omega) (by omega)]
  split
  · rfl
  · exact h.ck hp j (by omega)

/-- In CKSUM the payload of the frame in flight is live. -/
theorem rxPayload_eq (h : SameLive s t) (hp : s.pstate = .cksum) : s.rxPayload = t.rxPayload := by
  rw [State.rxPayload, State.rxPayload, ← h.len (.inr hp)]
  apply List.ext_getElem?
  intro j
  rw [List.getElem?_take, List.getElem?_take]
  split
  · next hj => exact h.bufInCksum hp j hj
  · rfl

/-- The integrity check has one outcome in both states once RX_CK is complete, and leaves every frame register stale. -/
theorem checkFrame (h : SameLive s t) (hp : s.pstate = .cksum) (hck : s.rxCk = t.rxCk) :
    SameLive s.checkFrame t.checkFrame := by
  have hdst := h.dst (.inr (.inr (.inr hp)))
  have hsrc := h.src (.inr (.inr hp))
  have hlen := h.len (.inr hp)
  have hpay := h.rxPayload_eq hp
  have hfcs : s.fcs = t.fcs := by rw [State.fcs, State.fcs, h.build, hdst, hsrc, hlen, hpay]
  have hmsg : s.rxMessage = t.rxMessage := by rw [State.rxMessage, State.rxMessage, hsrc, hlen, hpay]
  have hroom : s.hasRoom = t.hasRoom := by rw [State.hasRoom, State.hasRoom, h.build, h.q]
  have haccept : SameLive s.acceptFrame t.acceptFrame :=
    { h with q := by simp [h.q, hmsg], cntOk := congrArg inc32 h.cntOk }
  have hfull : SameLive s.dropOnFull t.dropOnFull := { h.raise .queueFullDrop with cntQDrop := congrArg inc32 h.cntQDrop }
  have hmismatch : SameLive s.dropOnMismatch t.dropOnMismatch := by
    unfold State.dropOnMismatch
    rw [← hck, ← hfcs, ← h.cntCrcErr]
    exact { h.raise (.ckMismatch s.rxCk s.fcs) with cntCrcErr := rfl }
  exact (ite (by rw [hck, hfcs]) (ite (by rw [hroom]) haccept hfull) hmismatch).toPre

theorem rxCksum (h : SameLive s t) (hs : s.Inv) (hp : s.pstate = .cksum) (b : Byte) :
    SameLive (s.rxCksum b) (t.rxCksum b) := by
  have hcount := hs.cksumBound hp
  have hlanes := h.takeCkByte_lanes hs hp b
  have htake : SameLive (s.takeCkByte b) (t.takeCkByte b) :=
    { h with ck := fun _ j hj => hlanes j (Nat.lt_succ_of_lt hj) }
  unfold State.rxCksum
  by_cases hlt : s.pcount < 3
  · have hnext : (s.pcount + 1).toNat = s.pcount.toNat + 1 := by bv_omega
    rw [if_pos hlt, if_pos (h.pcount ▸ hlt), ← h.pcount]
    exact { htake with
      pcount := rfl
      dst := fun _ => h.dst (.inr (.inr (.inr hp)))
      bufInPayload := fun e => nomatch hp.symm.trans e
      ck := fun _ j hj => hlanes j (hnext ▸ hj) }
  · rw [if_neg hlt, if_neg (h.pcount ▸ hlt)]
    have hfourth : 3 < s.pcount.toNat + 1 := by bv_omega
    have hck : (s.takeCkByte b).rxCk = (t.takeCkByte b).rxCk := by
      apply ckBytes_injective s.build.ckOrder
      rw [ckBytes_eq_lanes, ckBytes_eq_lanes, hlanes 0 (by omega), hlanes 1 (by omega), hlanes 2 (by omega), hlanes 3 hfourth]
    exact htake.checkFrame hp hck

theorem parse (h : SameLive s t) (hs : s.Inv) (ht : t.Inv) (b : Byte) : SameLive (s.parse b) (t.parse b) := by
  unfold State.parse
  rw [← h.pstate]
  cases hp : s.pstate with
  | pre => exact h.rxPre hp b
  | addr => exact h.rxAddr hp b
  | size => exact h.rxSize hp b
  | payload => exact h.rxPayloadByte hs ht hp b
  | cksum => exact h.rxCksum hs hp b

/-- RESET rewrites every register but the build and the trace still to come (R145). -/
theorem reset (h : SameLive s t) : SameLive { State.initial s.build with input := s.input }
    { State.initial t.build with input := t.input } := by
  rw [← h.build, ← h.input]
  exact .refl _

/-! ## What the host reads -/

theorem statusWord_eq (h : SameLive s t) : s.statusWord = t.statusWord := by
  simp only [State.statusWord, State.full, State.avail, h.q, h.pcount, h.pstate, h.build]

theorem headInfoWord_eq (h : SameLive s t) : s.headInfoWord = t.headInfoWord := by
  simp only [State.headInfoWord, h.q]

theorem headDataWord_eq (h : SameLive s t) (k : Nat) : s.headDataWord k = t.headDataWord k := by
  simp only [State.headDataWord, State.headByte, h.q]

/-- A read of what both states have alike. -/
theorem answerEvent (h : SameLive s t) {v w : Word32} (hv : v = w) :
    SameLive (s.beginEvent.answer v) (t.beginEvent.answer w) := hv ▸ h.beginEvent.answer v

end SameLive

/-! ## Every event, and the step -/

/-- Every event leaves two such states as two such states. -/
theorem exec_sameLive (i : Instr) {s t : State} (h : SameLive s t) (hs : s.Inv) (ht : t.Inv) :
    ∃ s' t', exec i s = .next s' ∧ exec i t = .next t' ∧ SameLive s' t' := by
  have hb := h.beginEvent
  cases i with
  | tick => exact ⟨_, _, exec_tick s, exec_tick t, hb.timerStep⟩
  | rxByte b => exact ⟨_, _, exec_rxByte s b, exec_rxByte t b, (hb.parse hs.beginEvent ht.beginEvent b).restartIdle⟩
  | rxError => exact ⟨_, _, exec_rxError s, exec_rxError t, (hb.raise _).timerStep⟩
  | rdPreamble => exact ⟨_, _, exec_rdPreamble s, exec_rdPreamble t, h.answerEvent (congrArg Preamble.word h.pre)⟩
  | rdCtrl => exact ⟨_, _, exec_rdCtrl s, exec_rdCtrl t, hb.answer 0⟩
  | rdStatus => exact ⟨_, _, exec_rdStatus s, exec_rdStatus t, h.answerEvent h.statusWord_eq⟩
  | rdHeadInfo => exact ⟨_, _, exec_rdHeadInfo s, exec_rdHeadInfo t, h.answerEvent h.headInfoWord_eq⟩
  | rdCntOk => exact ⟨_, _, exec_rdCntOk s, exec_rdCntOk t, h.answerEvent h.cntOk⟩
  | rdCntCrcErr => exact ⟨_, _, exec_rdCntCrcErr s, exec_rdCntCrcErr t, h.answerEvent h.cntCrcErr⟩
  | rdCntQDrop => exact ⟨_, _, exec_rdCntQDrop s, exec_rdCntQDrop t, h.answerEvent h.cntQDrop⟩
  | rdCntLenClamp => exact ⟨_, _, exec_rdCntLenClamp s, exec_rdCntLenClamp t, h.answerEvent h.cntLenClamp⟩
  | rdCntTimeout => exact ⟨_, _, exec_rdCntTimeout s, exec_rdCntTimeout t, h.answerEvent h.cntTimeout⟩
  | rdTimeout => exact ⟨_, _, exec_rdTimeout s, exec_rdTimeout t, h.answerEvent h.timeout⟩
  | rdParams => exact ⟨_, _, exec_rdParams s, exec_rdParams t, h.answerEvent (congrArg paramsWord h.build)⟩
  | rdHeadData k => exact ⟨_, _, exec_rdHeadData s k, exec_rdHeadData t k, h.answerEvent (h.headDataWord_eq k.toNat)⟩
  | rdReserved a => exact ⟨_, _, exec_rdReserved s a, exec_rdReserved t a, (hb.raise _).answer 0⟩
  | wrPreamble v => exact ⟨_, _, exec_wrPreamble s v, exec_wrPreamble t v, { hb with pre := rfl }⟩
  | wrCtrl v => exact ⟨_, _, exec_wrCtrl s v, exec_wrCtrl t v, hb.runCommands v⟩
  | wrTimeout v => exact ⟨_, _, exec_wrTimeout s v, exec_wrTimeout t v, { hb with timeout := rfl, idleCnt := rfl }⟩
  | wrIgnored a v => exact ⟨_, _, exec_wrIgnored s a v, exec_wrIgnored t a v, hb.raise _⟩
  | reset => exact ⟨_, _, exec_reset s, exec_reset t, h.reset⟩

theorem SameLive.observation_eq {s t : State} (h : SameLive s t) : s.observation = t.observation := by
  rw [State.observation, State.observation, State.msgAvail, State.msgAvail, State.avail, State.avail, h.outcome, h.q]

/-- Settles O54: both states have the same trace to come, so both run the same event. -/
theorem staleRegistersAreUnobservable : Obligations.StaleRegistersAreUnobservable := by
  intro s t s' hs ht h hstep
  obtain ⟨w, rest, i, hin, hw, hexec⟩ := step_eq_next hstep
  have hrest : SameLive { s with input := rest } { t with input := rest } := { h with input := rfl }
  obtain ⟨u, t', hu, ht', h'⟩ := exec_sameLive i hrest (hs.withInput rest) (ht.withInput rest)
  cases hu.symm.trans hexec
  exact ⟨t', (step_of_decode_eq_ok (h.input ▸ hin) hw).trans ht', h', h'.observation_eq⟩

end Sys2Proof.Machine
end

section
/-! Proofs/Encoding.lean: decode and encode agree (30_encoding.md R73 to R76). The word of a CSR access decodes to the row of its
address, so what remains is each row's own address; the two fallback rows take the addresses that the map sends nowhere else
(O1, O2). Then the words of trace assembly (R80, O6), the words of the vectors (O5) and the two fallback rows (O43). -/

namespace Sys2Proof

open Machine (CsrAccess)

/-! ## The word of each port's events -/

theorem decode_readWord (a : CsrAddr) : decode (mkWord 0x3 a 0) = .ok (readRow a) := CsrAccess.decode_word (.read a)

theorem decode_writeWord (a : CsrAddr) (v : Word32) : decode (mkWord 0x4 a v) = .ok (writeRow a v) :=
  CsrAccess.decode_word (.write a v)

theorem decode_byteWord (b : Byte) : decode (mkWord 0x1 0 (0#24 ++ b)) = .ok (.rxByte b) := by simp [decode]

/-! ## The fallback rows (R125, R126) -/

theorem readRow_of_reserved {a : CsrAddr} (h : reservedAddr a = true) : readRow a = .rdReserved a := by
  rw [readRow, (csrReg_reserved_iff a).2 h]

/-- The three registers that a write changes or commands, as numbers (R57). -/
theorem writableAddr_iff (a : CsrAddr) :
    writableAddr a = true ↔ alignedAddr a = 0x000 ∨ alignedAddr a = 0x004 ∨ alignedAddr a = 0x024 := by
  simp only [writableAddr, decide_eq_true_iff, ← BitVec.toNat_inj, toNat_wordAddr]
  rfl

theorem writeRow_of_not_writable {a : CsrAddr} (v : Word32) (h : writableAddr a = false) :
    writeRow a v = .wrIgnored a v := by
  have hne : ¬(alignedAddr a = 0x000 ∨ alignedAddr a = 0x004 ∨ alignedAddr a = 0x024) := by
    rw [← writableAddr_iff, h]
    decide
  simp only [not_or] at hne
  obtain ⟨hpreamble, hctrl, htimeout⟩ := hne
  rw [writeRow_eq_ite, if_neg hpreamble, if_neg hctrl, if_neg htimeout]

/-- Settles O1: each row's address leads the decoder back to the row. -/
theorem decodeEncodeAgree : Obligations.DecodeEncodeAgree := by
  intro i hi
  cases i with
  | tick => decide
  | rxByte b => exact decode_byteWord b
  | rxError => decide
  | rdPreamble => exact decode_readWord 0x000
  | rdCtrl => exact decode_readWord 0x004
  | rdStatus => exact decode_readWord 0x008
  | rdHeadInfo => exact decode_readWord 0x00C
  | rdCntOk => exact decode_readWord 0x010
  | rdCntCrcErr => exact decode_readWord 0x014
  | rdCntQDrop => exact decode_readWord 0x018
  | rdCntLenClamp => exact decode_readWord 0x01C
  | rdCntTimeout => exact decode_readWord 0x020
  | rdTimeout => exact decode_readWord 0x024
  | rdParams => exact decode_readWord 0x028
  | rdHeadData k =>
    have hrow := decode_readWord (headDataAddr k)
    rwa [Machine.readRow_headDataAddr] at hrow
  | rdReserved a =>
    have hrow := decode_readWord a
    rwa [readRow_of_reserved hi] at hrow
  | wrPreamble v => exact decode_writeWord 0x000 v
  | wrCtrl v => exact decode_writeWord 0x004 v
  | wrTimeout v => exact decode_writeWord 0x024 v
  | wrIgnored a v =>
    have hrow := decode_writeWord a v
    rwa [writeRow_of_not_writable v (by simpa [Instr.wellFormed] using hi)] at hrow
  | reset => exact Machine.decode_reset_word

/-! ## The bits that a CSR access ignores (R53) -/

theorem mkWord_or (k k' : BitVec 4) (a a' : CsrAddr) (d d' : Word32) :
    mkWord k a d ||| mkWord k' a' d' = mkWord (k ||| k') (a ||| a') (d ||| d') := by
  have hhigh : (k ++ a) ||| (k' ++ a') = (k ||| k') ++ (a ||| a') := BitVec.or_append
  exact BitVec.or_append.trans (congrArg (· ++ (d ||| d')) hhigh)

/-- Two words that agree but for ADDR[1:0], bits 33:32, agree with these bits set. -/
theorem mkWord_or_ignored {a a' : CsrAddr} (h : a' ||| 3#12 = a ||| 3#12) (k : BitVec 4) (d : Word32) :
    mkWord k a' d ||| 0x000300000000#48 = mkWord k a d ||| 0x000300000000#48 := by
  have hmask : (0x000300000000#48 : TraceWord) = mkWord 0 3#12 0 := by decide
  rw [hmask, mkWord_or, mkWord_or, h]

theorem wordAddr_or_three (a : CsrAddr) : wordAddr a ||| 3#12 = a ||| 3#12 := by
  have hbits : ∀ i < 12, ((0xFFC#12).getLsbD i || (3#12).getLsbD i) = true := by decide
  apply BitVec.eq_of_getLsbD_eq
  intro i hi
  rw [wordAddr, BitVec.getLsbD_or, BitVec.getLsbD_and, Bool.or_and_distrib_right, hbits i hi, Bool.and_true,
    BitVec.getLsbD_or]

theorem wordAddr_eq_ofNat (a : CsrAddr) : wordAddr a = BitVec.ofNat 12 (alignedAddr a) := by
  rw [← toNat_wordAddr, BitVec.ofNat_toNat, BitVec.setWidth_eq]

/-- HEAD_DATA[k] is the register at 0x100 + 4k (R45). -/
theorem headDataAddr_eq_ofNat {r : Nat} (h : 0x100 ≤ r ∧ r ≤ 0x1FC) (hr : r % 4 = 0) :
    headDataAddr (BitVec.ofNat 6 ((r - 0x100) / 4)) = BitVec.ofNat 12 r := by
  have haddr : ∀ k : BitVec 6, headDataAddr k = BitVec.ofNat 12 (0x100 + 4 * k.toNat) := by decide
  rw [haddr, BitVec.toNat_ofNat]
  congr 1
  omega

/-- A read row other than the fallback one encodes to the address of its register. -/
theorem encode_readRow (a : CsrAddr) :
    readRow a = .rdReserved a ∨ encode (readRow a) = mkWord 0x3 (wordAddr a) 0 := by
  have hreg := regAt_csrReg a
  have hr : alignedAddr a % 4 = 0 := Nat.mul_mod_left ..
  rw [wordAddr_eq_ofNat]
  unfold readRow
  generalize alignedAddr a = r at hreg hr ⊢
  generalize csrReg a = c at hreg ⊢
  cases hreg with
  | reserved => exact .inl rfl
  | headData h => exact .inr (congrArg (mkWord 0x3 · 0) (headDataAddr_eq_ofNat h hr))
  | preamble | ctrl | status | headInfo | cntOk | cntCrcErr | cntQDrop | cntLenClamp | cntTimeout | timeout | params =>
    exact .inr rfl

/-- A write row other than the fallback one encodes to the address of its register. -/
theorem encode_writeRow (a : CsrAddr) (v : Word32) :
    writeRow a v = .wrIgnored a v ∨ encode (writeRow a v) = mkWord 0x4 (wordAddr a) v := by
  cases hw : writableAddr a with
  | false => exact .inl (writeRow_of_not_writable v hw)
  | true =>
    right
    obtain h | h | h := (writableAddr_iff a).1 hw
    all_goals rw [writeRow_eq_ite, wordAddr_eq_ofNat, h]; rfl

theorem encode_readRow_or (a : CsrAddr) :
    encode (readRow a) ||| 0x000300000000#48 = mkWord 0x3 a 0 ||| 0x000300000000#48 := by
  obtain h | h := encode_readRow a
  · rw [h, encode]
  · rw [h, mkWord_or_ignored (wordAddr_or_three a)]

theorem encode_writeRow_or (a : CsrAddr) (v : Word32) :
    encode (writeRow a v) ||| 0x000300000000#48 = mkWord 0x4 a v ||| 0x000300000000#48 := by
  obtain h | h := encode_writeRow a v
  · rw [h, encode]
  · rw [h, mkWord_or_ignored (wordAddr_or_three a)]

/-! ## What the decoder accepts -/

theorem wellFormed_readRow (a : CsrAddr) : (readRow a).wellFormed = true := by
  unfold readRow
  cases hreg : csrReg a with
  | reserved => exact (csrReg_reserved_iff a).1 hreg
  | _ => rfl

theorem wellFormed_writeRow (a : CsrAddr) (v : Word32) : (writeRow a v).wellFormed = true := by
  cases hw : writableAddr a with
  | false => rw [writeRow_of_not_writable v hw, Instr.wellFormed, hw, Bool.not_false]
  | true =>
    obtain h | h | h := (writableAddr_iff a).1 hw
    all_goals rw [writeRow_eq_ite, h]; rfl

theorem eq_of_ite_eq_ok {ε α : Type} {c : Prop} [Decidable c] {i j : α} {e : ε}
    (h : (if c then Except.ok i else .error e) = .ok j) : c ∧ i = j := by
  split at h
  · next hc => exact ⟨hc, Except.ok.inj h⟩
  · cases h

/-- DATA with nothing above its low byte is that byte. -/
theorem append_low_byte {d : Word32} (h : d.extractLsb' 8 24 = 0) : (0#24 ++ d.extractLsb' 0 8 : Word32) = d := by
  have hsplit : (d.extractLsb' 8 24 ++ d.extractLsb' 0 8 : Word32) = d := BitVec.extractLsb'_append_extractLsb'
  rwa [h] at hsplit

/-- The words that the decoder accepts: those of the events without a CSR address, as the encoder writes them, and those of the
CSR accesses (R74, R76). -/
theorem decode_eq_ok {w : TraceWord} {i : Instr} (h : decode w = .ok i) :
    (i.wellFormed = true ∧ encode i = w) ∨ (∃ a, i = readRow a ∧ mkWord 0x3 a 0 = w)
      ∨ ∃ a v, i = writeRow a v ∧ mkWord 0x4 a v = w := by
  have hw : mkWord (BitVec.ofNat 4 (kindField w).toNat) (addrField w) (dataField w) = w := by
    rw [BitVec.ofNat_toNat, BitVec.setWidth_eq, mkWord_fields]
  unfold decode at h
  split at h
  · next hk =>
    obtain ⟨⟨ha, hd⟩, rfl⟩ := eq_of_ite_eq_ok h
    exact .inl ⟨rfl, by rwa [hk, ha, hd] at hw⟩
  · next hk =>
    obtain ⟨⟨ha, hd⟩, rfl⟩ := eq_of_ite_eq_ok h
    exact .inl ⟨rfl, by rwa [hk, ha, ← append_low_byte hd] at hw⟩
  · next hk =>
    obtain ⟨⟨ha, hd⟩, rfl⟩ := eq_of_ite_eq_ok h
    exact .inl ⟨rfl, by rwa [hk, ha, hd] at hw⟩
  · next hk =>
    obtain ⟨hd, rfl⟩ := eq_of_ite_eq_ok h
    exact .inr (.inl ⟨_, rfl, by rwa [hk, hd] at hw⟩)
  · next hk => exact .inr (.inr ⟨_, _, (Except.ok.inj h).symm, by rwa [hk] at hw⟩)
  · next hk =>
    obtain ⟨⟨ha, hd⟩, rfl⟩ := eq_of_ite_eq_ok h
    exact .inl ⟨rfl, by rwa [hk, ha, hd] at hw⟩
  · cases h

/-- Settles O2: only the CSR rows lose bits, and these are ADDR[1:0]. -/
theorem decodedWordsReencode : Obligations.DecodedWordsReencode := by
  intro w i h
  obtain ⟨hi, rfl⟩ | ⟨a, rfl, rfl⟩ | ⟨a, v, rfl, rfl⟩ := decode_eq_ok h
  · exact ⟨hi, rfl⟩
  · exact ⟨wellFormed_readRow a, encode_readRow_or a⟩
  · exact ⟨wellFormed_writeRow a v, encode_writeRow_or a v⟩

/-! ## Words that the spec writes out -/

open Machine in
/-- Settles O6: a register's name stands for its address, and a line with an address follows the map (O4). -/
theorem assemblyLinesDecode : Obligations.AssemblyLinesDecode := by
  intro line
  cases line with
  | tick => decide
  | rx b => exact PortEvent.decode_word (.byte b)
  | rxerr => decide
  | rdName n =>
    have hrow := decode_readWord n.addr
    cases n <;> exact hrow
  | rdAddr a =>
    have hrow := decode_readWord a
    rwa [readRow_eq_ite] at hrow
  | rdHeadData k =>
    have haddr : ∀ k : BitVec 6, (0x100 + 4 * k.setWidth 12 : CsrAddr) = headDataAddr k := by decide
    have hrow := decode_readWord (headDataAddr k)
    rwa [readRow_headDataAddr, ← haddr] at hrow
  | wr n v =>
    have hrow := decode_writeWord n.addr v
    cases n <;> exact hrow
  | reset => exact decode_reset_word

/-- Settles O5: fixed words, evaluated. -/
theorem sampleWordsDecode : Obligations.SampleWordsDecode := by
  unfold Obligations.SampleWordsDecode
  decide

/-- Settles O43: the two fallback rows, by the addresses that reach them and by what they do. -/
theorem reservedAccesses : Obligations.ReservedAccesses := by
  intro s a v
  refine ⟨fun ha => ?_, fun ha => ?_, Machine.exec_rdReserved s a, Machine.exec_wrIgnored s a v⟩
  · rw [← readRow_of_reserved ha]
    exact decode_readWord a
  · rw [← writeRow_of_not_writable v ha]
    exact decode_writeWord a v

end Sys2Proof
end

section
/-! Proofs/Steps.lean: what holds of every event, step and trace (30_encoding.md R73, 60_exceptions.md R128): the step of a
word (O7), a trace as its events (O8), completion (O9), the constant build (O42), the reset state and the invariants (O50 to
O52), and the construction of a block (O55). -/

namespace Sys2Proof.Machine

/-! ## Words, traces and events -/

/-- Settles O7. -/
theorem stepRunsDecodedEvent : Obligations.StepRunsDecodedEvent := fun _ _ _ _ hin hw => step_of_decode_eq_ok hin hw

/-- Settles O8: an event leaves the words behind it alone, so each step finds its word (`runSteps_withTrace`, by induction on
the trace). -/
theorem traceRunsItsEventsInOrder : Obligations.TraceRunsItsEventsInOrder := fun _ _ s h => runSteps_withTrace h s

/-- Settles O9. -/
theorem everyEventCompletes : Obligations.EveryEventCompletes := fun i s =>
  have ⟨t, ht, _⟩ := exec_next_withTrace i s
  ⟨t, ht⟩

/-! ## The build (R43, R52) -/

theorem State.timerStep_build (s : State) : s.timerStep.build = s.build := by
  obtain ⟨-, e⟩ | ⟨-, -, -, e⟩ | ⟨-, -, -, e⟩ := s.timerStep_spec
  all_goals exact e ▸ rfl

theorem State.runCommands_build (s : State) (v : Word32) : (s.runCommands v).build = s.build := by
  rw [State.runCommands, State.select_pop, State.select_clear, State.select_resync, State.select_clearCounters]

/-- Settles O42: no operation of an event writes the build. -/
theorem buildNeverChanges : Obligations.BuildNeverChanges := by
  intro i s t h
  cases i with
  | tick =>
    cases (exec_tick s).symm.trans h
    exact s.beginEvent.timerStep_build
  | rxByte b =>
    cases (exec_rxByte s b).symm.trans h
    exact (s.beginEvent.parse_keeps_pre_and_build b).2
  | rxError =>
    cases (exec_rxError s).symm.trans h
    exact (s.beginEvent.raise .rxIoError).timerStep_build
  | wrCtrl v =>
    cases (exec_wrCtrl s v).symm.trans h
    exact s.beginEvent.runCommands_build v
  | reset | wrPreamble | wrTimeout | wrIgnored | rdPreamble | rdCtrl | rdStatus | rdHeadInfo | rdCntOk | rdCntCrcErr
  | rdCntQDrop | rdCntLenClamp | rdCntTimeout | rdTimeout | rdParams | rdHeadData | rdReserved =>
    cases h
    rfl

/-! ## Reset and the invariants (R35, R147) -/

/-- Settles O50: the reset state of the default build, evaluated. -/
theorem resetStateValues : Obligations.ResetStateValues := by
  unfold Obligations.ResetStateValues
  decide

/-- Settles O51. -/
theorem resetSatisfiesTheInvariants : Obligations.ResetSatisfiesTheInvariants :=
  ⟨fun _ => State.initial_inv, State.initial_inv (by decide)⟩

/-- Settles O52: every operation that an event runs keeps the invariants (`exec_next_inv`), so the step does. -/
theorem stepKeepsTheInvariants : Obligations.StepKeepsTheInvariants := step_preserves_inv

/-! ## Construction (R8, R9) -/

/-- QD is out of its range where it is 0 or above 255; UNBOUNDED is in it (R9). -/
theorem queueDepth_legal_iff (d : QueueDepth) :
    d.legal = true ↔ ¬(d = .bounded 0 ∨ ∃ n, d = .bounded n ∧ 255 < n) := by
  cases d with
  | bounded n =>
    simp only [QueueDepth.legal, decide_eq_true_iff, QueueDepth.bounded.injEq, exists_eq_left', not_or]
    omega
  | unbounded => simp [QueueDepth.legal]

/-- Settles O55: a build is legal exactly where none of the parameters is out of its range. -/
theorem constructionRefusesIllegalParameters : Obligations.ConstructionRefusesIllegalParameters := by
  intro b illegal
  have hlegal : b.Legal ↔ ¬illegal := by
    simp only [illegal, Build.Legal, queueDepth_legal_iff, not_or, Nat.one_le_iff_ne_zero, Nat.not_lt]
  constructor
  · intro h
    rw [construct, if_neg fun hb => hlegal.1 hb h]
  · intro h
    rw [construct, if_pos (hlegal.2 h)]

end Sys2Proof.Machine
end

section
/-! Proofs/ChecksumFold.lean: a CHECKSUM with the law of 00_scope.md R10 is a left fold of a one-byte update, and every such fold
has the law (O22, O23). -/

namespace Sys2Proof.Machine

theorem foldChecksum_append (update : Word32 → Byte → Word32) (c : Word32) (a b : List Byte) :
    foldChecksum update (foldChecksum update c a) b = foldChecksum update c (a ++ b) := List.foldl_append.symm

/-- Settles O22. -/
theorem checksumConcatLaw : Obligations.ChecksumConcatLaw := fun _ a b => foldChecksum_append _ _ a b

section

variable {checksum : List Byte → Word32} {concat : Word32 → List Byte → Word32}

/-- By induction on the list from its end: the last byte joins the checksum of those before it by `concat`. -/
theorem checksum_eq_foldChecksum (law : ∀ a b, concat (checksum a) b = checksum (a ++ b)) (l : List Byte) :
    checksum l = foldChecksum (fun c b => concat c [b]) (checksum []) l := by
  induction l using List.reverseRecOn with
  | nil => rfl
  | append_singleton l b ih => rw [← law, ← foldChecksum_append, ← ih, foldChecksum_cons, foldChecksum_nil]

end

/-- Settles O23: the update is `concat` of one byte and the initial value the checksum of no bytes. -/
theorem everyChecksumIsAFold : Obligations.EveryChecksumIsAFold := by
  refine ⟨fun checksum concat law => ?_, foldChecksum_append, fun _ _ _ => ⟨rfl, rfl⟩⟩
  refine ⟨fun c b => concat c [b], checksum [], checksum_eq_foldChecksum law, fun a b => ?_⟩
  rw [law, foldChecksum_append, checksum_eq_foldChecksum law]

end Sys2Proof.Machine
end

section
/-! Proofs/HostAccess.lean: what the host's accesses read back and leave alone: PREAMBLE (10_state.md R38, O36), the parser's
registers (R21, O45) and the head of Q (20_memory.md R63, O33). -/

namespace Sys2Proof.Machine

/-! ## PREAMBLE (R38) -/

/-- The word of the preamble that a word sets is that word. -/
theorem word_unpackPreamble (v : Word32) : (unpackPreamble v).word = v := by
  rw [Preamble.word, packBytes_eq_append]
  exact append_lanes v

/-- Settles O36. -/
theorem preambleReadsBackWhatWasWritten : Obligations.PreambleReadsBackWhatWasWritten := by
  intro s t v h
  cases (exec_wrPreamble s v).symm.trans h
  rw [exec_rdPreamble, State.answer_beginEvent, word_unpackPreamble]

/-! ## The parser's registers (R21, R136) -/

/-- Settles O45: of the CSR events only a CTRL write reaches the parser, by RESYNC. -/
theorem hostCannotWriteTheParser : Obligations.HostCannotWriteTheParser := by
  intro i s t hi h
  cases i with
  | tick | rxByte | rxError | reset => cases hi <;> contradiction
  | wrCtrl v =>
    obtain ⟨-, hexec⟩ := ctrlWriteRunsItsCommands s v
    cases hexec.symm.trans h
    refine ⟨rfl, rfl, rfl, rfl, rfl, ?_, ?_⟩
    · rintro ⟨w, hw, hresync⟩
      cases hw
      exact ⟨if_pos hresync, if_pos hresync⟩
    · intro hno
      have hno' : ¬v.getLsbD 2 = true := by rw [hno v rfl]; decide
      exact ⟨if_neg hno', if_neg hno'⟩
  | wrPreamble | wrTimeout | wrIgnored | rdPreamble | rdCtrl | rdStatus | rdHeadInfo | rdCntOk | rdCntCrcErr | rdCntQDrop
  | rdCntLenClamp | rdCntTimeout | rdTimeout | rdParams | rdHeadData | rdReserved =>
    cases h
    refine ⟨rfl, rfl, rfl, rfl, rfl, ?_, fun _ => ⟨rfl, rfl⟩⟩
    rintro ⟨_, hw, -⟩
    cases hw

/-! ## The head of Q (R63) -/

/-- Only the host's POP and CLEAR and RESET remove messages, so any other event leaves Q as a start of what it becomes. -/
theorem exec_q_append {i : Instr} {s t : State} (hi : i ≠ .reset ∧ removesMessages i = false) (h : exec i s = .next t) :
    ∃ more, t.q = s.q ++ more := by
  obtain ⟨hreset, hremoves⟩ := hi
  obtain hq | ⟨b, m, -, hq⟩ | ⟨v, rfl, hpop, -⟩ | ⟨v, rfl, hclear, -⟩ | ⟨rfl, -⟩ :=
    queueHasOneProducerAndOneConsumer i s t h
  · exact ⟨[], by rw [hq, List.append_nil]⟩
  · exact ⟨[m], hq⟩
  · rw [removesMessages, hpop, Bool.true_or] at hremoves
    cases hremoves
  · rw [removesMessages, hclear, Bool.or_true] at hremoves
    cases hremoves
  · exact absurd rfl hreset

/-- By induction on the events. -/
theorem runEvents_q_append {is : List Instr} {s t : State} {obs : List Observation}
    (his : ∀ i ∈ is, i ≠ .reset ∧ removesMessages i = false) (h : runEvents is s = .next (t, obs)) :
    ∃ more, t.q = s.q ++ more := by
  induction is generalizing s obs with
  | nil =>
    cases h
    exact ⟨[], (List.append_nil _).symm⟩
  | cons i is ih =>
    obtain ⟨hi, his⟩ := List.forall_mem_cons.1 his
    obtain ⟨u, hu, h⟩ := andThen_eq_next (runEvents_cons s i is ▸ h)
    obtain ⟨⟨v, obs'⟩, hv, h⟩ := andThen_eq_next h
    cases h
    obtain ⟨more, hmore⟩ := exec_q_append hi hu
    obtain ⟨more', hmore'⟩ := ih his hv
    exact ⟨more ++ more', by rw [hmore', hmore, List.append_assoc]⟩

section

variable {s t : State} {m : Message} {rest rest' : List Message}

/-- HEAD_INFO and HEAD_DATA depend on the oldest message alone (R41, R45). -/
theorem headInfoWord_eq_of_head (hs : s.q = m :: rest) (ht : t.q = m :: rest') : t.headInfoWord = s.headInfoWord := by
  rw [headInfoWord_of_cons hs, headInfoWord_of_cons ht]

theorem headDataWord_eq_of_head (hs : s.q = m :: rest) (ht : t.q = m :: rest') (k : Nat) :
    t.headDataWord k = s.headDataWord k := by
  simp only [State.headDataWord, State.headByte, hs, ht]

end

/-- Settles O33: Q grows at its tail, so its head stays, and the two reads depend on the head alone. -/
theorem headIsStableUntilTheHostActs : Obligations.HeadIsStableUntilTheHostActs := by
  intro es s t obs m rest hq hes h
  obtain ⟨more, hmore⟩ := runEvents_q_append hes h
  rw [hq] at hmore
  exact ⟨⟨more, hmore⟩, headInfoWord_eq_of_head hq hmore, headDataWord_eq_of_head hq hmore⟩

end Sys2Proof.Machine
end

section
/-! Proofs/System.lean: several blocks side by side (00_scope.md R18, 60_exceptions.md R141). A step replaces the state of one of
them (O58), and an access reaches the one whose CSR window holds its address (O59). -/

namespace Sys2Proof.Machine

/-! ## A step of one block (R18) -/

theorem stepInstance_of_next {sys : List Block} {n : Fin sys.length} {t : State} (h : step sys[n].state = .next t) :
    stepInstance sys n = .next (sys.set n { sys[n] with state := t }) := by
  rw [stepInstance, h]

theorem exists_step_of_stepInstance {sys sys' : List Block} {n : Fin sys.length} (h : stepInstance sys n = .next sys') :
    ∃ t, step sys[n].state = .next t := by
  rw [stepInstance] at h
  cases hstep : step sys[n].state with
  | next t => exact ⟨t, rfl⟩
  | fault r => rw [hstep] at h; cases h
  | refused r => rw [hstep] at h; cases h

/-- Settles O58: the step writes one element of the list. -/
theorem instancesShareNoState : Obligations.InstancesShareNoState := by
  refine fun sys n => ⟨fun t ht => ?_, fun _ h => exists_step_of_stepInstance h⟩
  refine ⟨_, stepInstance_of_next ht, List.length_set, List.getElem?_set_self n.isLt, fun k hk => ?_⟩
  exact List.getElem?_set_ne hk.symm

/-! ## An access and the windows (R58) -/

/-- The address in the system of an access. -/
def SystemAccess.addr : SystemAccess → Nat
  | .read addr => addr
  | .write addr _ => addr

/-- The access as it arrives at a block's own port, given its address there. -/
def SystemAccess.atPort (acc : SystemAccess) (a : CsrAddr) : CsrAccess :=
  match acc with
  | .read _ => .read a
  | .write _ v => .write a v

theorem Block.access_eq (k : Block) (acc : SystemAccess) : k.access acc = (k.offset acc.addr).map acc.atPort := by
  cases acc <;> rfl

/-- The access at a register of the block becomes that register's access. -/
theorem Block.accept_address {k : Block} {acc : SystemAccess} {a : CsrAddr} (h : acc.addr = k.address a) :
    k.accept acc = { k with state := k.state.withTrace [(acc.atPort a).word] } := by
  refine Block.accept_of_some ?_
  rw [Block.access_eq, h, Block.offset_address, Option.map_some]

/-- A block whose window lies apart does not take the access. -/
theorem Block.accept_address_of_disjoint {j k : Block} {acc : SystemAccess} {a : CsrAddr} (h : acc.addr = k.address a)
    (hjk : j.csrBase + 4096 ≤ k.csrBase ∨ k.csrBase + 4096 ≤ j.csrBase) : j.accept acc = j := by
  refine Block.accept_of_none ?_
  rw [Block.access_eq, h, Block.offset_address_of_disjoint a hjk, Option.map_none]

/-- Two windows of such a system at different places share no address, in either order. -/
theorem windowsDisjoint.apart {sys : List Block} (h : windowsDisjoint sys) {m n : Nat} (hm : m < sys.length)
    (hn : n < sys.length) (hne : m ≠ n) :
    sys[m].csrBase + 4096 ≤ sys[n].csrBase ∨ sys[n].csrBase + 4096 ≤ sys[m].csrBase := by
  have hpair := List.pairwise_iff_getElem.1 h
  obtain hlt | hgt := Nat.lt_or_gt_of_ne hne
  · exact hpair m n hm hn hlt
  · exact (hpair n m hn hm hgt).symm

section

variable {sys : List Block} {acc : SystemAccess} {n : Fin sys.length} {a : CsrAddr}

theorem getElem?_deliverAccess_self (h : acc.addr = sys[n].address a) :
    (deliverAccess sys acc)[n.val]? = some { sys[n] with state := sys[n].state.withTrace [(acc.atPort a).word] } := by
  rw [deliverAccess, List.getElem?_map, List.getElem?_eq_getElem n.isLt, Option.map_some]
  exact congrArg some (Block.accept_address h)

theorem getElem?_deliverAccess_ne (hdisjoint : windowsDisjoint sys) (h : acc.addr = sys[n].address a) {k : Nat}
    (hk : k ≠ n.val) : (deliverAccess sys acc)[k]? = sys[k]? := by
  rw [deliverAccess, List.getElem?_map]
  by_cases hlt : k < sys.length
  · rw [List.getElem?_eq_getElem hlt, Option.map_some,
      Block.accept_address_of_disjoint h (hdisjoint.apart hlt n.isLt hk)]
  · rw [List.getElem?_eq_none (Nat.le_of_not_lt hlt), Option.map_none]

end

/-- Settles O59: the address lies in the window of its own block and in no window apart from it. -/
theorem accessReachesTheInstanceOfItsWindow : Obligations.AccessReachesTheInstanceOfItsWindow := by
  intro sys n a v hdisjoint addr reached
  refine ⟨getElem?_deliverAccess_self (acc := .read addr) rfl, getElem?_deliverAccess_self (acc := .write addr v) rfl, ?_⟩
  exact fun k hk => ⟨getElem?_deliverAccess_ne hdisjoint rfl hk, getElem?_deliverAccess_ne hdisjoint rfl hk⟩

end Sys2Proof.Machine
end

section
/-! Proofs/Popmsg.lean: the procedure popmsg (41_queue.md R107, R108). Its reads replace the outcome of the last event alone, so
they all see the queue as it was; the words of HEAD_DATA are the bytes of the head, and POP removes it (O30). -/

namespace Sys2Proof.Machine

/-! ## The reads of popmsg (R56) -/

/-- The state with another outcome of its last event. -/
def State.withOutcome (s : State) (o : EventOutcome) : State := { s with outcome := o }

section

variable (s : State) (o o' : EventOutcome)

@[simp] theorem State.withOutcome_withOutcome : (s.withOutcome o).withOutcome o' = s.withOutcome o' := rfl
@[simp] theorem State.withOutcome_headInfoWord : (s.withOutcome o).headInfoWord = s.headInfoWord := rfl
@[simp] theorem State.withOutcome_headDataWord : (s.withOutcome o).headDataWord = s.headDataWord := rfl

end

/-- A CSR read of `v`: the value, and the state with another outcome. -/
theorem readCsr_of_exec {i : Instr} {s : State} {v : Word32} (h : exec i s = .next (s.beginEvent.answer v)) :
    readCsr i s = .next (v, s.withOutcome (returned v)) := by
  rw [readCsr, h]
  rfl

/-- Reading `n` words of HEAD_DATA from the `k`-th on, by induction on `n`. -/
theorem readHeadWords_eq (s : State) (k n : Nat) (h : k + n ≤ 64) :
    ∃ o, readHeadWords k n s = .next ((List.range' k n).map s.headDataWord, s.withOutcome o) := by
  induction n generalizing k s with
  | zero => exact ⟨s.outcome, rfl⟩
  | succ n ih =>
    have hk : (BitVec.ofNat 6 k).toNat = k := by
      rw [BitVec.toNat_ofNat]
      omega
    have hread := readCsr_of_exec (exec_rdHeadData s (BitVec.ofNat 6 k))
    obtain ⟨o, ho⟩ := ih (s.withOutcome (returned (s.headDataWord k))) (k + 1) (by omega)
    refine ⟨o, ?_⟩
    rw [readHeadWords, hread, hk, andThen_next, ho, andThen_next, List.range'_succ, List.map_cons,
      State.withOutcome_headDataWord, State.withOutcome_withOutcome]

/-! ## The message that the words hold (R41, R45) -/

theorem le32_headDataWord (s : State) (k : Nat) :
    le32 (s.headDataWord k) = (List.range' (4 * k) 4).map s.headByte := by
  rw [le32, getLane_headDataWord s k 0 (by decide), getLane_headDataWord s k 1 (by decide),
    getLane_headDataWord s k 2 (by decide), getLane_headDataWord s k 3 (by decide)]
  rfl

/-- The bytes of consecutive words of HEAD_DATA are consecutive bytes of the head. -/
theorem flatMap_headDataWord (s : State) (k n : Nat) :
    ((List.range' k n).map s.headDataWord).flatMap le32 = (List.range' (4 * k) (4 * n)).map s.headByte := by
  induction n generalizing k with
  | zero => rfl
  | succ n ih =>
    have hsplit : List.range' (4 * k) (4 * (n + 1)) = List.range' (4 * k) 4 ++ List.range' (4 * (k + 1)) (4 * n) := by
      rw [Nat.mul_add_one, Nat.mul_add_one, Nat.add_comm (4 * n), List.range'_append_1]
    rw [List.range'_succ, List.map_cons, List.flatMap_cons, ih, hsplit, List.map_append, le32_headDataWord]

/-- As many bytes of the head as it has are its payload (R28). -/
theorem take_map_headByte {s : State} {m : Message} {rest : List Message} (hq : s.q = m :: rest)
    (hm : m.payload.length = m.size.toNat) {n : Nat} (hn : m.size.toNat ≤ n) :
    ((List.range' 0 n).map s.headByte).take m.size.toNat = m.payload := by
  apply List.ext_getElem
  · simp [hm, hn]
  · intro i hi hi'
    simp [headByte_of_cons _ hq hm, hi']

theorem getLane_headInfoWord_zero {s : State} {m : Message} {rest : List Message} (hq : s.q = m :: rest) :
    getLane s.headInfoWord 0 = m.src := by
  rw [headInfoWord_of_cons hq]
  exact getLane_append _ _ _ _ 0 (by decide)

theorem getLane_headInfoWord_one {s : State} {m : Message} {rest : List Message} (hq : s.q = m :: rest) :
    getLane s.headInfoWord 1 = m.size := by
  rw [headInfoWord_of_cons hq]
  exact getLane_append _ _ _ _ 1 (by decide)

/-- HEAD_INFO and the words of HEAD_DATA that hold the payload make up the head. -/
theorem messageOf_head {s : State} {m : Message} {rest : List Message} (hq : s.q = m :: rest)
    (hm : m.payload.length = m.size.toNat) {n : Nat} (hn : m.size.toNat ≤ 4 * n) :
    messageOf s.headInfoWord ((List.range' 0 n).map s.headDataWord) = m := by
  rw [messageOf, getLane_headInfoWord_zero hq, getLane_headInfoWord_one hq, flatMap_headDataWord,
    take_map_headByte hq hm hn]

/-! ## The procedure (R107) -/

theorem popMsg_of_nil {s : State} (hq : s.q = []) :
    popMsg s = .next (none, s.withOutcome (returned s.statusWord)) := by
  have havail : ¬s.statusWord.getLsbD 0 = true := by
    rw [s.statusWord_getLsbD_zero, s.msgAvail_iff, hq]
    exact not_not_intro rfl
  rw [popMsg, readCsr_of_exec (exec_rdStatus s), andThen_next, if_neg havail]

/-- A CTRL write of POP alone (R103, R112). -/
theorem exec_wrCtrl_one {s : State} {m : Message} {rest : List Message} (hq : s.q = m :: rest) :
    exec (.wrCtrl 1) s = .next { s with q := rest, outcome := raised [] } := by
  obtain ⟨-, hexec⟩ := ctrlWriteRunsItsCommands s 1
  rw [hexec, hq]
  rfl

/-- Within the invariants the head has as many bytes as its size says, and popmsg reads four of them with each word. -/
theorem popMsg_of_cons {s : State} (hinv : s.Inv) {m : Message} {rest : List Message} (hq : s.q = m :: rest) :
    popMsg s = .next (some m, { s with q := rest, outcome := raised [] }) := by
  obtain ⟨hm, -⟩ := hinv.messages m (hq ▸ List.mem_cons_self)
  have havail : s.statusWord.getLsbD 0 = true := by
    rw [s.statusWord_getLsbD_zero, s.msgAvail_iff, hq]
    exact List.cons_ne_nil m rest
  have hbyte := m.size.isLt
  have hmsg := messageOf_head hq hm (n := (m.size.toNat + 3) / 4) (by omega)
  have hinfo := readCsr_of_exec (exec_rdHeadInfo (s.withOutcome (returned s.statusWord)))
  obtain ⟨o, hwords⟩ := readHeadWords_eq (s.withOutcome (returned s.headInfoWord)) 0 ((m.size.toNat + 3) / 4) (by omega)
  have hpop := exec_wrCtrl_one (s := s.withOutcome o) hq
  rw [popMsg, readCsr_of_exec (exec_rdStatus s), andThen_next, if_pos havail, hinfo, andThen_next]
  simp only [State.withOutcome_headInfoWord, State.withOutcome_withOutcome, getLane_headInfoWord_one hq]
  rw [hwords, andThen_next]
  simp only [State.withOutcome_headDataWord, State.withOutcome_withOutcome]
  rw [hpop, andThen_next, hmsg]
  rfl

/-- Settles O30: an empty queue reads as such in STATUS, and the reads of a queue with a head give its message. -/
theorem popmsgReturnsTheHead : Obligations.PopmsgReturnsTheHead := by
  intro s hinv
  cases hq : s.q with
  | nil =>
    refine ⟨_, popMsg_of_nil hq, ?_⟩
    show s.arch = State.arch { s with q := [] }
    rw [← hq]
  | cons m rest => exact ⟨_, popMsg_of_cons hinv hq, rfl⟩

end Sys2Proof.Machine
end

section
/-! Proofs/RoundTrip.lean: encoded frames fed byte after byte (40_receive.md R96). No byte of such a frame raises a condition
(O19), each frame joins the queue behind those before it, and popmsg returns them in that order (41_queue.md R108, O31). -/

namespace Sys2Proof.Machine

/-! ## What is observed of a run of bytes -/

/-- The observations of one RX_BYTE for each of the bytes. -/
def State.byteObservations (s : State) : List Byte → List Observation
  | [] => []
  | b :: bs => (s.afterByte b).observation :: (s.afterByte b).byteObservations bs

theorem runEvents_rxBytes_eq (bs : List Byte) (s : State) :
    runEvents (bs.map Instr.rxByte) s = .next (s.afterBytes bs, s.byteObservations bs) := by
  induction bs generalizing s with
  | nil => rfl
  | cons b bs ih =>
    rw [List.map_cons, runEvents_cons, exec_rxByte_eq_afterByte, andThen_next, ih, andThen_next, State.afterBytes_cons,
      State.byteObservations]

theorem State.byteObservations_append (s : State) (xs ys : List Byte) :
    s.byteObservations (xs ++ ys) = s.byteObservations xs ++ (s.afterBytes xs).byteObservations ys := by
  induction xs generalizing s with
  | nil => rfl
  | cons x xs ih => rw [List.cons_append, byteObservations, byteObservations, ih, List.cons_append, afterBytes_cons]

/-- The conditions of a byte are those of the state's host side. -/
theorem State.conditions_eq_of_hostSide_eq {s t : State} (h : s.hostSide = t.hostSide) :
    s.outcome.conditions = t.outcome.conditions := (congrArg (·.outcome.conditions) h :)

/-- A byte of a frame before the last raises nothing, by induction on the bytes. -/
theorem State.InFrame.conditions_eq_nil {s : State} {dst src : Byte} {payload ck rest xs : List Byte}
    (h : s.InFrame dst src payload ck (xs ++ rest)) (hrest : rest ≠ []) :
    ∀ o ∈ s.byteObservations xs, o.conditions = [] := by
  induction xs generalizing s with
  | nil => nofun
  | cons x xs ih =>
    obtain ⟨hx, hhost⟩ := h.afterByte (by simp [hrest])
    rw [State.byteObservations, List.forall_mem_cons]
    exact ⟨State.conditions_eq_of_hostSide_eq hhost, ih hx⟩

/-! ## An encoded frame (R96) -/

theorem encodeFrame_ne_nil (b : Build) (p : Preamble) (dst src : Byte) (data : List Byte) :
    encodeFrame b p dst src data ≠ [] := by
  simp [encodeFrame, frameBytes, Preamble.bytes]

/-- The last byte of an encoded frame queues its message and raises nothing, and no byte before it raises anything. -/
theorem State.encodeFrame_conditions_eq_nil {s : State} (hinv : s.Inv) (hp : s.pstate = .pre) (hc : s.pcount = 0)
    (dst src : Byte) {data : List Byte} (hfits : data.length ≤ s.build.maxPayload) (hroom : s.hasRoom = true) :
    ∀ o ∈ s.byteObservations (encodeFrame s.build s.pre dst src data), o.conditions = [] := by
  obtain ⟨t, ht, -, -, hhost⟩ := State.afterBytes_encodeFrame hinv hp hc dst src hfits hroom
  have hlast : t.outcome.conditions = [] := State.conditions_eq_of_hostSide_eq (t := s.beginEvent.queueMessage _) hhost
  have hstart := State.inFrame_of_atPre hinv hp hc dst src hfits
    (length_ckBytes s.build.ckOrder (checksumOf s.build.checksum (frameBody dst src data)))
  rw [← encodeFrame_of_fits _ _ _ _ hfits] at hstart
  obtain hnil | ⟨before, last, hframe⟩ := (encodeFrame s.build s.pre dst src data).eq_nil_or_concat'
  · exact absurd hnil (encodeFrame_ne_nil _ _ _ _ _)
  · rw [hframe] at hstart ht ⊢
    rw [State.byteObservations_append, List.forall_mem_append]
    refine ⟨hstart.conditions_eq_nil (List.cons_ne_nil last []), ?_⟩
    have hstep : (s.afterBytes before).afterByte last = t := (s.afterBytes_append before [last]).symm.trans ht
    exact List.forall_mem_singleton.2 (hstep ▸ hlast)

/-- Settles O19: what the host sees after the frame is its message queued, and what it saw on the way is no condition. -/
theorem frameRoundTrip : Obligations.FrameRoundTrip := by
  intro s dst src data hinv hp hc hfits hroom
  have hroom' := s.hasRoom_iff.2 hroom
  obtain ⟨t, ht, hpre, hcount, hhost⟩ := State.afterBytes_encodeFrame hinv hp hc dst src hfits hroom'
  have hrun := runEvents_rxBytes_eq (encodeFrame s.build s.pre dst src data) s
  rw [ht] at hrun
  obtain ⟨hp', hbuild, htimeout, hq, hok, hcrcerr, hqdrop, hclamp, htmo⟩ :=
    State.eq_of_hostSide_eq (t := s.queueMessage _) (congrArg State.beginEvent hhost)
  exact ⟨t, _, hrun, hq, hok, hpre, hcount, hp', hbuild, htimeout, hcrcerr, hqdrop, hclamp, htmo,
    State.encodeFrame_conditions_eq_nil hinv hp hc dst src hfits hroom'⟩

/-! ## Frames in order (R108) -/

/-- A frame to send: its destination, its source and its payload. -/
abbrev FrameFields := Byte × Byte × List Byte

/-- The message that a frame carries (R28, R69). -/
def messageOfFrame (f : FrameFields) : Message :=
  { src := f.2.1, size := BitVec.ofNat 8 f.2.2.length, payload := f.2.2 }

/-- Frames fed one after another with room for all of them queue their messages in order, by induction on the frames. -/
theorem State.afterBytes_encodeFrames {s : State} (hinv : s.Inv) (hp : s.pstate = .pre) (hc : s.pcount = 0)
    {frames : List FrameFields} (hfits : ∀ f ∈ frames, f.2.2.length ≤ s.build.maxPayload)
    (hroom : ∀ n, s.build.queueDepth = .bounded n → s.q.length + frames.length ≤ n) :
    (s.afterBytes (frames.flatMap fun f => encodeFrame s.build s.pre f.1 f.2.1 f.2.2)).q = s.q ++ frames.map messageOfFrame := by
  induction frames generalizing s with
  | nil => exact (List.append_nil _).symm
  | cons f frames ih =>
    obtain ⟨hf, hfits⟩ := List.forall_mem_cons.1 hfits
    have hroom' : s.hasRoom = true := s.hasRoom_iff.2 fun n hn => by
      have hle := hroom n hn
      rw [List.length_cons] at hle
      omega
    obtain ⟨t, ht, hpre, hcount, hhost⟩ := State.afterBytes_encodeFrame hinv hp hc f.1 f.2.1 hf hroom'
    obtain ⟨hinvt, -⟩ := hinv.afterBytes (encodeFrame s.build s.pre f.1 f.2.1 f.2.2)
    rw [ht] at hinvt
    obtain ⟨(hp' : t.pre = s.pre), (hbuild : t.build = s.build), -, (hq : t.q = s.q ++ [messageOfFrame f]), -⟩ :=
      State.eq_of_hostSide_eq (t := s.queueMessage _) (congrArg State.beginEvent hhost)
    have hrest := ih hinvt hpre hcount (hbuild ▸ hfits) fun n hn => by
      have hle := hroom n (hbuild ▸ hn)
      rw [List.length_cons] at hle
      rw [hq, List.length_append, List.length_singleton]
      omega
    rw [hbuild, hp', hq] at hrest
    rw [List.flatMap_cons, State.afterBytes_append, ht, hrest, List.append_assoc, List.map_cons, List.singleton_append]

/-- As many popmsg procedures as there are messages return them in order, by induction on Q. -/
theorem popMsgs_eq {s : State} (hinv : s.Inv) : ∃ t, popMsgs s.q.length s = .next (s.q.map some, t) ∧ t.q = [] := by
  generalize hq : s.q = q
  induction q generalizing s with
  | nil => exact ⟨s, rfl, hq⟩
  | cons m rest ih =>
    have hpop := popMsg_of_cons hinv hq
    have hinv' : { s with q := rest, outcome := raised [] }.Inv := { hinv.dropMessages (hq ▸ List.suffix_cons m rest) with }
    obtain ⟨t, ht, htq⟩ := ih hinv' rfl
    refine ⟨t, ?_, htq⟩
    rw [List.length_cons, popMsgs, hpop, andThen_next, ht, andThen_next, List.map_cons]

/-- Settles O31: the frames queue their messages in order, and popmsg takes them from the other end. -/
theorem framesPopInOrder : Obligations.FramesPopInOrder := by
  intro s frames hinv hp hc hq hfits hroom
  have hqueued := State.afterBytes_encodeFrames hinv hp hc hfits (by simpa [hq] using hroom)
  obtain ⟨hinv', -⟩ := hinv.afterBytes (frames.flatMap fun f => encodeFrame s.build s.pre f.1 f.2.1 f.2.2)
  obtain ⟨u, hu, huq⟩ := popMsgs_eq hinv'
  rw [hqueued, hq, List.nil_append, List.length_map, List.map_map] at hu
  exact ⟨_, _, u, runEvents_rxBytes_eq _ s, hu, huq⟩

end Sys2Proof.Machine
end

section
/-! Proofs/BytePort.lean: runs of byte-port events: the overlapping preamble (40_receive.md R86, O11), a checksum byte and its
lane of RX_CK (R91, O15), and the byte-less cycle on which the timeout fires (60_exceptions.md R138, O26). -/

namespace Sys2Proof.Machine

/-! ## The preamble detector's restart (R85, R86) -/

/-- The detector is in PRE with PCOUNT `k`, with the preamble `p` and the queue `q`. -/
def State.Detecting (s : State) (k : Byte) (p : Preamble) (q : List Message) : Prop :=
  s.pstate = .pre ∧ s.pcount = k ∧ s.pre = p ∧ s.q = q

section

variable {s : State} {k b : Byte} {p : Preamble} {q : List Message}

theorem State.Detecting.of_match (h : s.Detecting k p q) (hb : b = p.get k) (h3 : k ≠ 3) :
    (s.afterByte b).Detecting (k + 1) p q := by
  obtain ⟨hp, rfl, rfl, rfl⟩ := h
  obtain ⟨-, hlast, -⟩ | ⟨-, -, e⟩ | ⟨hne, -⟩ := s.beginEvent.parse_pre b hp
  · exact absurd hlast h3
  · rw [State.afterByte, e]
    exact ⟨hp, rfl, rfl, rfl⟩
  · exact absurd hb hne

/-- A mismatching byte restarts the detector and is not itself compared with P[0] (R86). -/
theorem State.Detecting.of_mismatch (h : s.Detecting k p q) (hb : b ≠ p.get k) : (s.afterByte b).Detecting 0 p q := by
  obtain ⟨hp, rfl, rfl, rfl⟩ := h
  obtain ⟨heq, -⟩ | ⟨heq, -⟩ | ⟨-, e⟩ := s.beginEvent.parse_pre b hp
  · exact absurd heq hb
  · exact absurd heq hb
  · rw [State.afterByte, e]
    exact ⟨hp, rfl, rfl, rfl⟩

end

/-- Settles O11: AA BB match, the second AA is a mismatch at offset 2, and from then on no byte is P[0]. -/
theorem overlappingPreambleIsMissed : Obligations.OverlappingPreambleIsMissed := by
  intro s hp hc hpre
  have h0 : s.Detecting 0 { p0 := 0xAA, p1 := 0xBB, p2 := 0xCC, p3 := 0xDD } s.q := ⟨hp, hc, hpre, rfl⟩
  have h1 := h0.of_match (b := 0xAA) (by decide) (by decide)
  have h2 := h1.of_match (b := 0xBB) (by decide) (by decide)
  have h3 := h2.of_mismatch (b := 0xAA) (by decide)
  have h4 := h3.of_mismatch (b := 0xBB) (by decide)
  have h5 := h4.of_mismatch (b := 0xCC) (by decide)
  obtain ⟨hpre, hcount, -, hq⟩ := h5.of_mismatch (b := 0xDD) (by decide)
  obtain ⟨obs, hrun⟩ := runEvents_rxBytes [0xAA, 0xBB, 0xAA, 0xBB, 0xCC, 0xDD] s
  exact ⟨_, obs, hrun, hpre, hcount, hq⟩

/-! ## A checksum byte (R91) -/

/-- Whether the byte completes the checksum or not, RX_CK has it in its lane. -/
theorem State.afterByte_rxCk {s : State} (hp : s.pstate = .cksum) (b : Byte) :
    (s.afterByte b).rxCk = putCkByte s.build.ckOrder s.pcount b s.rxCk := by
  obtain ⟨-, e⟩ | ⟨-, e⟩ := s.beginEvent.parse_cksum b hp
  · exact congrArg State.rxCk e
  · exact (congrArg State.rxCk e).trans (State.checkFrame_rxCk _)

theorem ckLane_eq_ite (order : CkOrder) (i : Nat) : ckLane order i = if order = .le then i else 3 - i := by
  cases order with
  | le => rfl
  | be => rfl

/-- Settles O15. -/
theorem checksumByteIsAssembled : Obligations.ChecksumByteIsAssembled := by
  intro s b hp hcount
  refine ⟨_, exec_rxByte_eq_afterByte s b, fun j hj => ?_, fun hlt => ?_⟩
  · rw [State.afterByte_rxCk hp, putCkByte, if_pos (Nat.lt_succ_of_le hcount), ← ckLane_eq_ite]
    exact getLane_putLane _ _ _ _ hj
  · obtain ⟨-, e⟩ | ⟨hge, -⟩ := s.beginEvent.parse_cksum b hp
    · rw [State.afterByte, e]
      rfl
    · exact absurd hlt (Nat.not_lt.2 hge)

/-! ## The timeout (R138) -/

/-- A byte-less event is the timer step, from the state with nothing but its outcome changed. -/
theorem exec_byteless {i : Instr} (hi : byteless i = true) (s : State) :
    ∃ o, exec i s = .next { s with outcome := o }.timerStep := by
  cases i with
  | tick => exact ⟨raised [], exec_tick s⟩
  | rxError => exact ⟨raised [.rxIoError], exec_rxError s⟩
  | _ => cases hi

section

variable {s : State} {i : Instr}

/-- A byte-less cycle before the TIMEOUT-th counts. -/
theorem exec_byteless_count (hon : s.timeout ≠ 0) (hbusy : ¬(s.pstate = .pre ∧ s.pcount = 0)) (hi : byteless i = true)
    (hlt : s.idleCnt.toNat + 1 < s.timeout.toNat) :
    ∃ o, exec i s = .next { s with idleCnt := s.idleCnt + 1, outcome := o } := by
  obtain ⟨o, hexec⟩ := exec_byteless hi s
  obtain ⟨hoff | hidle, -⟩ | ⟨-, -, hge, -⟩ | ⟨-, -, -, e⟩ := State.timerStep_spec { s with outcome := o }
  · exact absurd hoff hon
  · exact absurd hidle hbusy
  · exact absurd hlt (Nat.not_lt.2 hge)
  · exact ⟨o, hexec.trans (congrArg _ e)⟩

/-- The TIMEOUT-th byte-less cycle resyncs. -/
theorem exec_byteless_fire (hon : s.timeout ≠ 0) (hbusy : ¬(s.pstate = .pre ∧ s.pcount = 0)) (hi : byteless i = true)
    (hge : s.timeout.toNat ≤ s.idleCnt.toNat + 1) :
    ∃ o, exec i s = .next
        { s with pstate := .pre, pcount := 0, idleCnt := 0, cntTimeout := s.cntTimeout + 1, outcome := o }
      ∧ .timeoutResync s.pstate s.pcount ∈ o.conditions := by
  obtain ⟨o, hexec⟩ := exec_byteless hi s
  obtain ⟨hoff | hidle, -⟩ | ⟨-, -, -, e⟩ | ⟨-, -, hlt, -⟩ := State.timerStep_spec { s with outcome := o }
  · exact absurd hoff hon
  · exact absurd hidle hbusy
  · exact ⟨_, hexec.trans (congrArg _ e), List.mem_append_right _ (List.mem_singleton_self _)⟩
  · exact absurd hlt (Nat.not_lt.2 hge)

/-- Fewer byte-less cycles than are left before the timeout change IDLE_CNT alone, by induction on the cycles. -/
theorem runEvents_byteless {is : List Instr} (hon : s.timeout ≠ 0) (hbusy : ¬(s.pstate = .pre ∧ s.pcount = 0))
    (his : ∀ i ∈ is, byteless i = true) (hlt : s.idleCnt.toNat + is.length < s.timeout.toNat) :
    ∃ o obs, runEvents is s = .next ({ s with idleCnt := s.idleCnt + BitVec.ofNat 32 is.length, outcome := o }, obs) := by
  induction is generalizing s with
  | nil => exact ⟨s.outcome, [], by simp⟩
  | cons i is ih =>
    obtain ⟨hi, his⟩ := List.forall_mem_cons.1 his
    rw [List.length_cons] at hlt
    have hbound := s.timeout.isLt
    obtain ⟨o, hexec⟩ := exec_byteless_count hon hbusy hi (by omega)
    have hnext : (s.idleCnt + 1).toNat = s.idleCnt.toNat + 1 := by bv_omega
    obtain ⟨o', obs, hrun⟩ := ih (s := { s with idleCnt := s.idleCnt + 1, outcome := o }) hon hbusy his
      (show (s.idleCnt + 1).toNat + is.length < s.timeout.toNat by omega)
    have hsum : s.idleCnt + 1 + BitVec.ofNat 32 is.length = s.idleCnt + BitVec.ofNat 32 (is.length + 1) := by
      rw [BitVec.add_assoc, Nat.add_comm is.length, BitVec.ofNat_add]
      rfl
    refine ⟨o', State.observation { s with idleCnt := s.idleCnt + 1, outcome := o } :: obs, ?_⟩
    rw [runEvents_cons, hexec, andThen_next, hrun, andThen_next, List.length_cons, ← hsum]

/-- From IDLE_CNT = 0 it has then counted the cycles. -/
theorem runEvents_byteless_of_zero {is : List Instr} (hon : s.timeout ≠ 0) (hidle : s.idleCnt = 0)
    (hbusy : ¬(s.pstate = .pre ∧ s.pcount = 0)) (his : ∀ i ∈ is, byteless i = true) (hlt : is.length < s.timeout.toNat) :
    ∃ o obs, runEvents is s = .next ({ s with idleCnt := BitVec.ofNat 32 is.length, outcome := o }, obs) := by
  have hcount : s.idleCnt + BitVec.ofNat 32 is.length = BitVec.ofNat 32 is.length := by
    rw [hidle]
    exact BitVec.zero_add _
  have hzero : s.idleCnt.toNat = 0 := congrArg BitVec.toNat hidle
  obtain ⟨o, obs, hrun⟩ := runEvents_byteless hon hbusy his (by omega)
  exact ⟨o, obs, hcount ▸ hrun⟩

end

/-- Settles O26: fewer cycles count, and the last of TIMEOUT cycles meets IDLE_CNT = TIMEOUT - 1. -/
theorem timeoutFiresOnTheNthCycle : Obligations.TimeoutFiresOnTheNthCycle := by
  intro s es hon hidle hbusy hes
  constructor
  · intro hlt
    obtain ⟨o, obs, hrun⟩ := runEvents_byteless_of_zero hon hidle hbusy hes hlt
    exact ⟨_, obs, hrun, rfl⟩
  · intro hlen
    obtain rfl | ⟨before, last, rfl⟩ := es.eq_nil_or_concat'
    · exact absurd (BitVec.eq_of_toNat_eq hlen.symm) hon
    · obtain ⟨hbefore, hlast⟩ := List.forall_mem_append.1 hes
      rw [List.length_append, List.length_singleton] at hlen
      have hbound := s.timeout.isLt
      obtain ⟨o, obs, hrun⟩ := runEvents_byteless_of_zero hon hidle hbusy hbefore (by omega)
      have hcount : (BitVec.ofNat 32 before.length).toNat = before.length := by
        rw [BitVec.toNat_ofNat, Nat.mod_eq_of_lt (by omega)]
      obtain ⟨o', hexec, hmem⟩ := exec_byteless_fire
        (s := { s with idleCnt := BitVec.ofNat 32 before.length, outcome := o }) hon hbusy
        (hlast _ (List.mem_singleton_self _)) (by rw [hcount, hlen])
      have hall := runEvents_append s before [last]
      rw [hrun, andThen_next, runEvents_singleton hexec, andThen_next] at hall
      exact ⟨_, _, hall, rfl, hmem⟩

end Sys2Proof.Machine
end

section
/-! Proofs/Counters.lean: a byte-port event moves each counter by the conditions of its kind that it raises, and CNT_OK by the
messages it queues (10_state.md R31, 60_exceptions.md R127; O47). Each operation of a byte-port event moves one counter and
raises that counter's condition, or neither. Then a POP in the cycle that completes a frame (20_memory.md R60, O57). -/

namespace Sys2Proof.Machine

/-! ## Counting conditions -/

/-- How many of the conditions have the code, as a counter counts them (R31). -/
def countCode (code : Nat) (cs : List Condition) : Word32 := BitVec.ofNat 32 (cs.countP fun c => c.code == code)

theorem countCode_append (code : Nat) (cs ds : List Condition) :
    countCode code (cs ++ ds) = countCode code cs + countCode code ds := by
  rw [countCode, List.countP_append, BitVec.ofNat_add]
  rfl

/-- From `s` to `t` the conditions `new` are raised; each error counter moves by those of its code, and CNT_OK by the messages
that have joined Q. -/
structure CountsNew (s t : State) (new : List Condition) : Prop where
  conditions : t.outcome.conditions = s.outcome.conditions ++ new
  lenClamp : t.cntLenClamp = s.cntLenClamp + countCode 2 new
  crcErr : t.cntCrcErr = s.cntCrcErr + countCode 3 new
  qDrop : t.cntQDrop = s.cntQDrop + countCode 4 new
  timeout : t.cntTimeout = s.cntTimeout + countCode 7 new
  ok : t.cntOk = s.cntOk + BitVec.ofNat 32 (t.q.length - s.q.length)

namespace CountsNew

variable {s t u : State} {new : List Condition}

/-! ## The operations of a byte-port event -/

/-- Nothing of this depends on the parser's registers or on IDLE_CNT. -/
theorem of_hostSide_eq (h : CountsNew s u new) (htu : t.hostSide = u.hostSide) : CountsNew s t new := by
  have hcond := State.conditions_eq_of_hostSide_eq htu
  obtain ⟨-, -, -, hq, hok, hcrcerr, hqdrop, hclamp, htmo⟩ := State.eq_of_hostSide_eq (congrArg State.beginEvent htu)
  exact ⟨hcond ▸ h.conditions, hclamp ▸ h.lenClamp, hcrcerr ▸ h.crcErr, hqdrop ▸ h.qDrop, htmo ▸ h.timeout,
    hok ▸ hq ▸ h.ok⟩

theorem refl (s : State) : CountsNew s s [] := by
  refine ⟨(List.append_nil _).symm, ?_, ?_, ?_, ?_, ?_⟩
  all_goals simp [countCode]

theorem syncMiss (s : State) (b k : Byte) : CountsNew s (s.raise (.syncMiss b k)) [.syncMiss b k] := by
  refine ⟨rfl, ?_, ?_, ?_, ?_, ?_⟩
  all_goals simp [countCode, Condition.code]

theorem takeLength (s : State) (b : Byte) : ∃ new, CountsNew s (s.takeLength b) new := by
  obtain ⟨-, e⟩ | ⟨-, e⟩ := s.takeLength_spec b
  · refine ⟨[.lenClamped b], e ▸ ⟨rfl, ?_, ?_, ?_, ?_, ?_⟩⟩
    all_goals simp [countCode, Condition.code]
  · exact ⟨[], (refl s).of_hostSide_eq (e ▸ rfl)⟩

theorem checkFrame (s : State) : ∃ new, CountsNew s s.checkFrame new := by
  obtain ⟨-, -, e⟩ | ⟨-, -, e⟩ | ⟨-, e⟩ := s.checkFrame_spec
  · refine ⟨[], e ▸ ⟨(List.append_nil _).symm, ?_, ?_, ?_, ?_, ?_⟩⟩
    all_goals simp [countCode]
  · refine ⟨[.queueFullDrop], e ▸ ⟨rfl, ?_, ?_, ?_, ?_, ?_⟩⟩
    all_goals simp [countCode, Condition.code]
  · refine ⟨[.ckMismatch s.rxCk s.fcs], e ▸ ⟨rfl, ?_, ?_, ?_, ?_, ?_⟩⟩
    all_goals simp [countCode, Condition.code]

theorem timerStep (s : State) : ∃ new, CountsNew s s.timerStep new := by
  obtain ⟨-, e⟩ | ⟨-, -, -, e⟩ | ⟨-, -, -, e⟩ := s.timerStep_spec
  · exact ⟨[], (refl s).of_hostSide_eq (e ▸ rfl)⟩
  · refine ⟨[.timeoutResync s.pstate s.pcount], e ▸ ⟨rfl, ?_, ?_, ?_, ?_, ?_⟩⟩
    all_goals simp [countCode, Condition.code]
  · exact ⟨[], (refl s).of_hostSide_eq (e ▸ rfl)⟩

theorem parse (s : State) (b : Byte) : ∃ new, CountsNew s (s.parse b) new := by
  cases hp : s.pstate with
  | pre =>
    obtain ⟨-, -, e⟩ | ⟨-, -, e⟩ | ⟨-, e⟩ := s.parse_pre b hp
    · exact ⟨[], (refl s).of_hostSide_eq (e ▸ rfl)⟩
    · exact ⟨[], (refl s).of_hostSide_eq (e ▸ rfl)⟩
    · exact ⟨_, (syncMiss s b s.pcount).of_hostSide_eq (e ▸ rfl)⟩
  | addr =>
    obtain ⟨-, e⟩ | ⟨-, e⟩ := s.parse_addr b hp
    all_goals exact ⟨[], (refl s).of_hostSide_eq (e ▸ rfl)⟩
  | size =>
    obtain ⟨new, h⟩ := takeLength s b
    rw [s.parse_size b hp]
    exact ⟨new, h.of_hostSide_eq rfl⟩
  | payload =>
    obtain ⟨-, e⟩ | ⟨-, e⟩ := s.parse_payload b hp
    all_goals exact ⟨[], (refl s).of_hostSide_eq (e ▸ rfl)⟩
  | cksum =>
    obtain ⟨-, e⟩ | ⟨-, e⟩ := s.parse_cksum b hp
    · exact ⟨[], (refl s).of_hostSide_eq (e ▸ rfl)⟩
    · obtain ⟨new, h⟩ := checkFrame (s.takeCkByte b)
      exact ⟨new, e ▸ { h with }⟩

/-! ## The conditions of the whole event -/

/-- What an event raises first moves no counter, if no counter counts it. -/
theorem of_lead (h : CountsNew s t new) (hlead : ∀ code ∈ [2, 3, 4, 7], countCode code s.outcome.conditions = 0) :
    CountsNew { s with outcome := raised [] } t t.outcome.conditions := by
  have hcount (code : Nat) (hcode : code ∈ [2, 3, 4, 7]) : countCode code t.outcome.conditions = countCode code new := by
    rw [h.conditions, countCode_append, hlead code hcode]
    exact BitVec.zero_add _
  exact ⟨rfl, hcount 2 (by decide) ▸ h.lenClamp, hcount 3 (by decide) ▸ h.crcErr, hcount 4 (by decide) ▸ h.qDrop,
    hcount 7 (by decide) ▸ h.timeout, h.ok⟩

end CountsNew

/-- Settles O47: an event begins with no condition, or with RX_IO_ERROR, which no counter counts. -/
theorem countersCountTheirConditions : Obligations.CountersCountTheirConditions := by
  intro i s t hi h raisedNow
  have hcount : CountsNew s.beginEvent t t.outcome.conditions := by
    cases i with
    | tick =>
      cases (exec_tick s).symm.trans h
      obtain ⟨new, hnew⟩ := CountsNew.timerStep s.beginEvent
      exact hnew.of_lead fun _ _ => rfl
    | rxByte b =>
      cases (exec_rxByte s b).symm.trans h
      obtain ⟨new, hnew⟩ := CountsNew.parse s.beginEvent b
      have hidle : CountsNew s.beginEvent (s.beginEvent.parse b).restartIdle new := hnew.of_hostSide_eq rfl
      exact hidle.of_lead fun _ _ => rfl
    | rxError =>
      cases (exec_rxError s).symm.trans h
      obtain ⟨new, hnew⟩ := CountsNew.timerStep (s.beginEvent.raise .rxIoError)
      exact hnew.of_lead (show ∀ code ∈ [2, 3, 4, 7], countCode code [.rxIoError] = 0 by decide)
    | _ => cases hi
  exact ⟨hcount.lenClamp, hcount.crcErr, hcount.qDrop, hcount.timeout, hcount.ok⟩

/-! ## A POP in the cycle that completes a frame (R60, R92, R103) -/

/-- The fourth checksum byte raises QUEUE_FULL_DROP only for a frame that passes its check. -/
theorem rxCk_eq_fcs_of_queueFullDrop {s : State} (h : s.outcome.conditions = [])
    (hdrop : s.checkFrame.outcome.conditions = [.queueFullDrop]) : s.rxCk = s.fcs := by
  obtain ⟨hmatch, -⟩ | ⟨hmatch, -⟩ | ⟨-, hcond⟩ := s.checkFrame_conditions
  · exact hmatch
  · exact hmatch
  · rw [h, hdrop] at hcond
    cases hcond

/-- A frame that passes its check is queued where there is room (R92). -/
theorem exec_rxByte_of_room {s : State} {b : Byte} (hp : s.pstate = .cksum) (hc : s.pcount = 3)
    (hmatch : (s.beginEvent.takeCkByte b).rxCk = (s.beginEvent.takeCkByte b).fcs) (hroom : s.hasRoom = true) :
    exec (.rxByte b) s = .next (s.beginEvent.takeCkByte b).acceptFrame.toPre.restartIdle := by
  rw [exec_rxByte_eq_afterByte, State.afterByte_fourthCkByte hp hc, State.checkFrame, if_pos hmatch,
    State.takeCkByte_hasRoom, State.beginEvent_hasRoom, if_pos hroom]

/-- Settles O57: POP changes nothing that the check looks at, and makes the room that the frame lacked. -/
theorem popFreesASlotForTheSameCycle : Obligations.PopFreesASlotForTheSameCycle := by
  intro s t b m rest hp hc hq hfull h hdrop
  cases (exec_rxByte_eq_afterByte s b).symm.trans h
  rw [State.afterByte_fourthCkByte hp hc] at hdrop
  have hmatch := rxCk_eq_fcs_of_queueFullDrop (s := s.beginEvent.takeCkByte b) rfl hdrop
  have hroom : State.hasRoom { s with q := rest, outcome := raised [] } = true := by
    rw [State.hasRoom_iff]
    intro n hn
    cases hfull.symm.trans hn
    rw [hq]
    exact Nat.lt_succ_self _
  have hpop : exec (CsrAccess.write 0x004 1).instr s = .next { s with q := rest, outcome := raised [] } :=
    exec_wrCtrl_one hq
  have hbyte := exec_rxByte_of_room (s := { s with q := rest, outcome := raised [] }) hp hc hmatch hroom
  exact ⟨_, runCycle_access (p := .byte b) hpop hbyte, rfl, rfl, rfl, rfl⟩

end Sys2Proof.Machine
end
